-- ==== Sys2Proof/Word.lean ====
section
/-! DEFINITION. The word types of the block: the byte, the six-bit coordinate and the colour triple. -/

namespace Sys2Proof

/-- A byte: eight bits, bit 7 the most significant (R16). One byte is one instruction (R100). -/
abbrev Byte := BitVec 8

/-- `Coord6` of R18: a coordinate of the pixel buffer, 0..63, six bits wide (R39). -/
abbrev Coord6 := BitVec 6

/-- `RGB` of R18: a triple of 8-bit channels. -/
structure RGB where
  r : Byte
  g : Byte
  b : Byte
deriving DecidableEq, Repr, Inhabited

/-- `BLACK = (0, 0, 0)` of R18, the source's "color-zero". -/
def black : RGB := ⟨0, 0, 0⟩

end Sys2Proof
end

