-- ==== Sys2Proof/Config.lean ====
section
/-! DEFINITION. The parameters of the block: the fixed ones of R8 and R15, and the open ones of R9 to R14, which are
constants with no body, so that nothing can be proved of their values beyond what their types say. The sizes of R8,
COLS = 10, ROWS = 8, GW = GH = 64, and its byte values stand as numerals where the pseudocode has them (log 17). -/

namespace Sys2Proof.Config

/-- `BLINK_HALF_PERIOD`: 300 milliseconds (R8). -/
def blinkHalfPeriod : Nat := 300

/-- `SPACE`, the character of a blank cell (R15; PRESUMED by the spec itself to be ASCII: log 10). -/
def space : Byte := 32

/-- `UNDERSCORE`, the cursor glyph (R15; PRESUMED by the spec itself to be ASCII: log 10). -/
def underscore : Byte := 95

/-! The open parameters. -/

/-- `GRAY_FG`: the neutral gray foreground, an RGB triple of no stated value (R9; log 6). -/
opaque grayFg : RGB

/-- `GREEN_FG`: the green foreground, an RGB triple of no stated value (R10; log 6). -/
opaque greenFg : RGB

/-- `CELL_W`: the width of a glyph cell. R11 constrains it by `COLS * CELL_W <= GW`, that is `10 * w ≤ 64`, that is
`w ≤ 6`: the type holds exactly the values R11 allows (log 7). -/
opaque cellW : Fin 7

/-- `CELL_H`: the height of a glyph cell. R11 constrains it by `ROWS * CELL_H <= GH`, that is `8 * h ≤ 64`, that is
`h ≤ 8`: the type holds exactly the values R11 allows (log 7). -/
opaque cellH : Fin 9

/-- `GLYPH_ON(ch, dx, dy)`: whether the glyph of `ch` is lit at column `dx`, row `dy` (R12; log 7). -/
opaque glyphOn : Byte → Nat → Nat → Bool

/-- `BG`: the colour that the caller clears the canvas to (R13; log 8). -/
opaque background : RGB

/-- `BLINK_VISIBLE_0`: the cursor visibility at power-on (R14; log 9). -/
opaque blinkVisible0 : Bool

/-- `BLINK_DEADLINE_0`: the blink deadline at power-on (R14; log 9). -/
opaque blinkDeadline0 : Nat

/-- The time of a tick of which `State.inputs` says nothing: a free value, a fresh one for each index. The outside
supplies `now` and the model assumes nothing of it (R271). DESIGN CHOICE: the form (log 2). -/
opaque freeNow : Nat → Nat

end Sys2Proof.Config

namespace Sys2Proof

/-- A glyph source as the renderer uses it: the cell size (R11) and the lit pixels (R12). The renderer takes it as an
argument, so that the spec's own example glyphs can be tested beside the open parameter. -/
structure GlyphSource where
  cellW : Fin 7
  cellH : Fin 9
  lit : Byte → Nat → Nat → Bool

/-- The glyph source of the machine: the three open parameters of R11 and R12. -/
def Config.glyphs : GlyphSource := ⟨Config.cellW, Config.cellH, Config.glyphOn⟩

end Sys2Proof
end

