-- ==== Sys2Proof/Machine/State.lean ====
section
/-! DEFINITION. The state of the block (R30 to R45), why a step can stop (it cannot, R310), and the state after
power-on reset (R45, R340). -/

namespace Sys2Proof.Machine

/-- One element of the text grid: a character code and its colour, always written together (R35, R75). -/
structure TextCell where
  ch : Byte
  color : RGB
deriving DecidableEq, Repr, Inhabited

/-- `BLANK = (SPACE, BLACK)` of R18. -/
def blankCell : TextCell := ⟨Config.space, black⟩

/-- A rectangle of elements, `h` rows of `w`: the shape of the two storage arrays and of the frame (R70). -/
abbrev Grid (α : Type) (w h : Nat) := Vector (Vector α w) h

/-- The text grid `cell[c][r]`: row `r`, then column `c`; COLS = 10, ROWS = 8 (R8, R35). -/
abbrev TextGrid := Grid TextCell 10 8

/-- The pixel buffer `pix[x][y]`: row `y`, then column `x`; GW = GH = 64 (R8, R38). -/
abbrev PixelBuffer := Grid RGB 64 64

/-- The frame of a tick: the colour painted at each canvas pixel, or nothing (R31). -/
abbrev Frame := Grid (Option RGB) 64 64

/-- What the outside presents to the block in one step (R30): a tick with the result of the poll and the time, or the
power-on reset input, which consumes no byte (R340; log 4). -/
inductive TickInput where
  | tick (byte : Option Byte) (now : Nat)
  | rst
deriving DecidableEq, Repr

/-- The state: the elements of R44, then the ports of a tick (R30, R31), then the model's own free-value index. -/
structure State where
  /-- `gfx`, the mode flag (R33). -/
  gfx : Bool
  /-- `esc`, the escape flag (R34). -/
  esc : Bool
  /-- `cell[c][r]`, the text grid (R35). -/
  cell : TextGrid
  /-- `cur_c`, the cursor's column (R36): a natural, as in the pseudocode; its bound is an invariant (log 15). -/
  curC : Nat
  /-- `cur_r`, the cursor's row (R36): a natural, as in the pseudocode; its bound is an invariant (log 15). -/
  curR : Nat
  /-- `cur_color`, the current text colour (R37). -/
  curColor : RGB
  /-- `pix[x][y]`, the pixel buffer (R38). -/
  pix : PixelBuffer
  /-- `ptr_x`, the pointer's column (R39). -/
  ptrX : Coord6
  /-- `ptr_y`, the pointer's row (R39). -/
  ptrY : Coord6
  /-- `blink_visible`, the cursor visibility (R40). -/
  blinkVisible : Bool
  /-- `blink_deadline`, the time of the next toggle in milliseconds (R40). -/
  blinkDeadline : Nat
  /-- The inputs of the steps to come, the next one first (R30; log 1). -/
  inputs : List TickInput
  /-- The output of the last step: its frame, or nothing after a reset (R31, R340; log 5). -/
  frame : Option Frame
  /-- The model's own: the index of the next free time (log 2). -/
  freeCount : Nat
deriving DecidableEq, Repr

/-- The reasons a step can fault: none. "The block raises no exception, fault or trap, for any byte in any state"
(R310), so this closed type has no constructor and no one can raise it. Safe: it removes no behaviour (log 21). -/
inductive Fault where
deriving DecidableEq, Repr

/-- The reasons a step can refuse. "it never faults and never refuses a byte" (R310): the constructor stands because
the host asks for it. -/
inductive Refusal where
  /-- Raised by no one: every instruction of the table has its meaning. It would be safe (log 21). -/
  | notModelled (mnemonic : String)
deriving DecidableEq, Repr

/-- A grid with the same element everywhere. -/
def fillGrid {α : Type} (w h : Nat) (a : α) : Grid α w h := Vector.replicate h (Vector.replicate w a)

/-- The power-on state of R45, with nothing yet presented at the ports (logs 1, 2, 5). -/
def State.reset : State where
  gfx := false
  esc := false
  cell := fillGrid 10 8 blankCell
  curC := 0
  curR := 0
  curColor := Config.grayFg
  pix := fillGrid 64 64 black
  ptrX := 0
  ptrY := 0
  blinkVisible := Config.blinkVisible0
  blinkDeadline := Config.blinkDeadline0
  inputs := []
  frame := none
  freeCount := 0

end Sys2Proof.Machine
end

