-- ==== Sys2Proof/Machine/Flags.lean ====
section
/-! DEFINITION. The flags of the block: "the two state bits gfx and esc; no instruction has any other flag"
(44_protocol.md). No result computes a flag; they are set and cleared only. -/

namespace Sys2Proof.Machine

/-- `gfx <- v`, the mode flag (R33). -/
def State.setGfx (v : Bool) (s : State) : State := { s with gfx := v }

/-- `esc <- v`, the escape flag (R34). -/
def State.setEsc (v : Bool) (s : State) : State := { s with esc := v }

end Sys2Proof.Machine
end

