-- ==== Sys2Proof/Machine/Operands.lean ====
section
/-! DEFINITION. The colour operand: the quantizer ColorCodec (R130 to R132). The other operand forms of R106 are fields
of the byte and are formed by the decoder. -/

namespace Sys2Proof.Machine

/-- `LEVEL` of R130: "a fixed non-linear table". -/
def level (v : BitVec 2) : Byte :=
  if v = 0 then 0 else if v = 1 then 63 else if v = 2 then 127 else 255

/-- `decode(p)` of R130: red in `p[1:0]`, green in `p[3:2]`, blue in `p[5:4]`. -/
def colorDecode (p : BitVec 6) : RGB :=
  ⟨level (p.extractLsb' 0 2), level (p.extractLsb' 2 2), level (p.extractLsb' 4 2)⟩

/-- The inverse of `LEVEL`, on the four levels only (R132). -/
def levelCode (c : Byte) : Option (BitVec 2) :=
  if c = 0 then some 0 else if c = 63 then some 1 else if c = 127 then some 2 else if c = 255 then some 3 else none

/-- `code(rgb)` of R132, "undefined on a non-quantized triple": there it has no value (log 20). -/
def colorCode (c : RGB) : Option (BitVec 6) :=
  match levelCode c.r, levelCode c.g, levelCode c.b with
  | some r, some g, some b => some (r.setWidth 6 ||| g.setWidth 6 <<< 2 ||| b.setWidth 6 <<< 4)
  | _, _, _ => none

end Sys2Proof.Machine
end

