-- ==== Sys2Proof/Machine/Ops.lean ====
section
/-! DEFINITION. The state-access primitives of R17 over the two storage arrays and the frame, and one setter for each
other state element. There is no operation for taking an exception or returning from one: "There is no trap entry, no
trap return" (R312). -/

namespace Sys2Proof.Machine

/-! Grids. A coordinate outside the grid names no element: it reads as `d` and writes nothing. R74 says that no access
of the block has one (log 15). -/

/-- The element at column `x`, row `y`. -/
def gridGet {α : Type} {w h : Nat} (d : α) (g : Grid α w h) (x y : Nat) : α :=
  match g[y]? with
  | some row => row[x]?.getD d
  | none => d

/-- The grid with the element at column `x`, row `y` replaced. -/
def gridSet {α : Type} {w h : Nat} (g : Grid α w h) (x y : Nat) (a : α) : Grid α w h :=
  match g[y]? with
  | some row => g.setIfInBounds y (row.setIfInBounds x a)
  | none => g

/-- The grid whose element at column `x`, row `y` is `f x y`. -/
def tabulate {α : Type} (w h : Nat) (f : Fin w → Fin h → α) : Grid α w h :=
  Vector.ofFn fun y => Vector.ofFn fun x => f x y

/-- `cell[c][r]`. -/
def State.cellAt (s : State) (c r : Nat) : TextCell := gridGet blankCell s.cell c r

/-- `pix[x][y]`. -/
def State.pixAt (s : State) (x y : Nat) : RGB := gridGet black s.pix x y

/-- What the frame `f` holds at canvas pixel `(x, y)`. -/
def frameAt (f : Frame) (x y : Nat) : Option RGB := gridGet none f x y

/-! One setter for each state element. -/

/-- `cell <- g`, the whole grid. -/
def State.setCell (g : TextGrid) (s : State) : State := { s with cell := g }

/-- `cur_c <- c`. -/
def State.setCurC (c : Nat) (s : State) : State := { s with curC := c }

/-- `cur_r <- r`. -/
def State.setCurR (r : Nat) (s : State) : State := { s with curR := r }

/-- `cur_color <- k`. -/
def State.setCurColor (k : RGB) (s : State) : State := { s with curColor := k }

/-- `pix <- g`, the whole buffer. -/
def State.setPix (g : PixelBuffer) (s : State) : State := { s with pix := g }

/-- `ptr_x <- x`. -/
def State.setPtrX (x : Coord6) (s : State) : State := { s with ptrX := x }

/-- `ptr_y <- y`. -/
def State.setPtrY (y : Coord6) (s : State) : State := { s with ptrY := y }

/-- `blink_visible <- v; blink_deadline <- t` (R40). -/
def State.setBlink (v : Bool) (t : Nat) (s : State) : State := { s with blinkVisible := v, blinkDeadline := t }

/-- The inputs still to come. -/
def State.setInputs (l : List TickInput) (s : State) : State := { s with inputs := l }

/-- The output port. -/
def State.setFrame (f : Option Frame) (s : State) : State := { s with frame := f }

/-- The free-value index. -/
def State.setFreeCount (n : Nat) (s : State) : State := { s with freeCount := n }

/-- `CellWrite(c, r, ch, color)` of R17: `cell[c][r] <- (ch, color)`, the whole cell (R75). -/
def cellWrite (c r : Nat) (ch : Byte) (color : RGB) (s : State) : State :=
  s.setCell (gridSet s.cell c r ⟨ch, color⟩)

/-- `PixWrite(x, y, rgb)` of R17: `pix[x][y] <- rgb`. -/
def pixWrite (x y : Coord6) (rgb : RGB) (s : State) : State :=
  s.setPix (gridSet s.pix x.toNat y.toNat rgb)

end Sys2Proof.Machine
end

