-- ==== Sys2Proof/Machine/BlinkTimer.lean ====
section
/-! DEFINITION. The BlinkTimer (R270 to R272). -/

namespace Sys2Proof.Machine

/-- `blinkUpdate(now)` of R270: at or after the deadline one toggle, and the next deadline 300 ms from `now` (the
spec's D10: log 13). Time is a natural of any size (R271). -/
def blinkUpdate (now : Nat) (s : State) : State :=
  if now ≥ s.blinkDeadline then s.setBlink (!s.blinkVisible) (now + Config.blinkHalfPeriod) else s

end Sys2Proof.Machine
end

