-- ==== Sys2Proof/Syntax.lean ====
section
/-! DEFINITION. The instructions: one constructor for each row of spec/opcode_table.json. -/

namespace Sys2Proof

/-- The byte instructions (R2, R108). The operands are the bits of the byte that the encoding leaves to the sender
(R102 to R106, R113), those that the instruction ignores among them, so that no bit of an encoding is lost. -/
inductive Instr where
  /-- `HRST`, hard reset (R193). -/
  | hrst
  /-- `NUL`, ignored (R194). -/
  | nul
  /-- `E.TXTGRAY`, text reset to gray (R221). -/
  | eTxtGray
  /-- `E.TXTGREEN`, text reset to green (R222). -/
  | eTxtGreen
  /-- `E.COLOR p [, alt]`: set the text colour to code `p`; `alt` is bit 6, which is ignored (R103, R223). -/
  | eColor (alt : Bool) (p : BitVec 6)
  /-- `E.GFX [n]`: enter graphics mode; `n` is bits 5:0, which are ignored (R103, R224). -/
  | eGfx (n : BitVec 6)
  /-- `E.NOP n`: an escape argument of no further effect; `n` is the byte (R225). -/
  | eNop (n : Byte)
  /-- `ESC`, the escape marker (R195). -/
  | esc
  /-- `T.CR`, new line (R197). -/
  | tCr
  /-- `T.DEL`, backspace (R198). -/
  | tDel
  /-- `T.IGN n`: an ignored text-mode code; `n` is the byte (R200). -/
  | tIgn (n : Byte)
  /-- `T.CHAR c`: write the character `c`, the whole byte (R199). -/
  | tChar (c : Byte)
  /-- `G.EXIT`, back to text mode (R241). -/
  | gExit
  /-- `G.BLACK [n]`: write a black pixel; `n` is the payload, which is ignored (R242). -/
  | gBlack (n : BitVec 6)
  /-- `G.SETY y`: set the pointer's row (R243). -/
  | gSetY (y : Coord6)
  /-- `G.SETX x`: set the pointer's column (R244). -/
  | gSetX (x : Coord6)
  /-- `G.PIXEL p`: write a pixel of colour code `p` (R245). -/
  | gPixel (p : BitVec 6)
deriving DecidableEq, Repr

end Sys2Proof
end

