-- ==== Sys2Proof/WellFormed.lean ====
section
/-! DEFINITION. The mnemonics, the operand conditions of R113 and the contexts of R108. -/

namespace Sys2Proof

/-- The mnemonics of R108 (R20). -/
inductive Mnemonic where
  | HRST | NUL | E_TXTGRAY | E_TXTGREEN | E_COLOR | E_GFX | E_NOP | ESC
  | T_CR | T_DEL | T_IGN | T_CHAR | G_EXIT | G_BLACK | G_SETY | G_SETX | G_PIXEL
deriving DecidableEq, Repr

/-- The mnemonic of an instruction. -/
def Instr.mnemonic : Instr → Mnemonic
  | .hrst => .HRST
  | .nul => .NUL
  | .eTxtGray => .E_TXTGRAY
  | .eTxtGreen => .E_TXTGREEN
  | .eColor _ _ => .E_COLOR
  | .eGfx _ => .E_GFX
  | .eNop _ => .E_NOP
  | .esc => .ESC
  | .tCr => .T_CR
  | .tDel => .T_DEL
  | .tIgn _ => .T_IGN
  | .tChar _ => .T_CHAR
  | .gExit => .G_EXIT
  | .gBlack _ => .G_BLACK
  | .gSetY _ => .G_SETY
  | .gSetX _ => .G_SETX
  | .gPixel _ => .G_PIXEL

/-- The operand conditions of R113: outside them the assembler refuses the operand, and the operation has no encoding
(R112). -/
def Instr.wf : Instr → Bool
  | .hrst | .nul | .eTxtGray | .eTxtGreen | .esc | .tCr | .tDel | .gExit => true
  | .eColor alt p => !(alt && p == 63)
  | .eGfx _ => true
  | .eNop n => 0x03 ≤ n && n ≤ 0x3F
  | .tIgn n => (0x01 ≤ n && n ≤ 0x0C) || (0x0E ≤ n && n ≤ 0x1A) || (0x1C ≤ n && n ≤ 0x1F)
  | .tChar c => (0x20 ≤ c && c ≤ 0x7E) || (0x80 ≤ c && c ≤ 0xFE)
  | .gBlack n => 1 ≤ n && n ≤ 62
  | .gSetY _ => true
  | .gSetX _ => true
  | .gPixel p => 1 ≤ p && p != 27

/-- The context column of R108: whether a byte of this mnemonic is read under the flags `esc` and `gfx`. "text" is
`esc` clear and `gfx` false, "graphics" is `esc` clear and `gfx` true. -/
def Mnemonic.inContext (esc gfx : Bool) : Mnemonic → Bool
  | .HRST | .NUL => true
  | .E_TXTGRAY | .E_TXTGREEN | .E_COLOR | .E_GFX | .E_NOP => esc
  | .ESC => !esc
  | .T_CR | .T_DEL | .T_IGN | .T_CHAR => !esc && !gfx
  | .G_EXIT | .G_BLACK | .G_SETY | .G_SETX | .G_PIXEL => !esc && gfx

/-- Whether an instruction is read under the flags `esc` and `gfx` (R108). -/
def Instr.inContext (esc gfx : Bool) (i : Instr) : Bool := i.mnemonic.inContext esc gfx

end Sys2Proof
end

