-- ==== Sys2Proof/Decode.lean ====
section
/-! DEFINITION. The decoder (R107), the encoder (R113), the opcode table with its first-match reading (R115), and the
spec's assembler (R113, R114). -/

namespace Sys2Proof

/-- `b[5:0]`, the payload field of formats G and E (R102, R103, R106). -/
def payload (b : Byte) : BitVec 6 := b.extractLsb' 0 6

/-- `b[7:6]`, the sub-command field `op` of format G (R102, R240). -/
def subCommand (b : Byte) : BitVec 2 := b.extractLsb' 6 2

/-- An escape argument, 0x01..0xFE with `esc` set, in the order of R107 and R220: 2, 1, bit 7, bit 6, other. -/
def decodeEscape (b : Byte) : Instr :=
  if b = 0x02 then .eTxtGray
  else if b = 0x01 then .eTxtGreen
  else if b.getLsbD 7 then .eColor (b.getLsbD 6) (payload b)
  else if b.getLsbD 6 then .eGfx (payload b)
  else .eNop b

/-- A text-mode byte that is none of 0x00, 0x1B, 0xFF (R107, R197 to R200). -/
def decodeText (b : Byte) : Instr :=
  if b = 0x0D then .tCr
  else if b = 0x7F then .tDel
  else if 0x20 ≤ b ∧ b ≤ 0xFE then .tChar b
  else .tIgn b

/-- A graphics-mode byte that is none of 0x00, 0x1B, 0xFF (R107, R240). -/
def decodeGraphics (b : Byte) : Instr :=
  if subCommand b = 0b11 then
    if payload b = 0 then .gExit else .gBlack (payload b)
  else if subCommand b = 0b10 then .gSetY (payload b)
  else if subCommand b = 0b01 then .gSetX (payload b)
  else .gPixel (payload b)

/-- `decode(esc, gfx, b)` of R107: exactly one instruction for every byte in every context. It refuses nothing, since
"A model decodes every key; none traps or is refused" (R111). -/
def decode (esc gfx : Bool) (b : Byte) : Instr :=
  if b = 0xFF then .hrst
  else if b = 0x00 then .nul
  else if esc then decodeEscape b
  else if b = 0x1B then .esc
  else if gfx then decodeGraphics b
  else decodeText b

/-- The byte of an instruction, by the syntax table of R113. -/
def encode : Instr → Byte
  | .hrst => 0xFF
  | .nul => 0x00
  | .eTxtGray => 0x02
  | .eTxtGreen => 0x01
  | .eColor alt p => (if alt then 0xC0 else 0x80) ||| p.setWidth 8
  | .eGfx n => 0x40 ||| n.setWidth 8
  | .eNop n => n
  | .esc => 0x1B
  | .tCr => 0x0D
  | .tDel => 0x7F
  | .tIgn n => n
  | .tChar c => c
  | .gExit => 0xC0
  | .gBlack n => 0xC0 ||| n.setWidth 8
  | .gSetY y => 0x80 ||| y.setWidth 8
  | .gSetX x => 0x40 ||| x.setWidth 8
  | .gPixel p => p.setWidth 8

/-! The opcode table. -/

/-- The decode key `esc : gfx : b` of R100, ten bits. -/
def decodeKey (esc gfx : Bool) (b : Byte) : BitVec 10 :=
  (BitVec.ofBool esc ++ BitVec.ofBool gfx ++ b : BitVec (1 + 1 + 8))

/-- A row of opcode_table.json: a key selects it when `key & mask == bits` (R115). -/
structure OpcodeRow where
  mnemonic : Mnemonic
  bits : BitVec 10
  mask : BitVec 10
deriving DecidableEq, Repr

/-- opcode_table.json in priority order, `match` and `mask` as the table has them (R115). -/
def opcodeRows : List OpcodeRow :=
  [⟨.HRST, 0x0FF, 0x0FF⟩, ⟨.NUL, 0x000, 0x0FF⟩, ⟨.E_TXTGRAY, 0x202, 0x2FF⟩, ⟨.E_TXTGREEN, 0x201, 0x2FF⟩,
   ⟨.E_COLOR, 0x280, 0x280⟩, ⟨.E_GFX, 0x240, 0x2C0⟩, ⟨.E_NOP, 0x200, 0x200⟩, ⟨.ESC, 0x01B, 0x2FF⟩,
   ⟨.T_CR, 0x00D, 0x3FF⟩, ⟨.T_DEL, 0x07F, 0x3FF⟩, ⟨.T_IGN, 0x000, 0x3E0⟩, ⟨.T_CHAR, 0x000, 0x300⟩,
   ⟨.G_EXIT, 0x1C0, 0x3FF⟩, ⟨.G_BLACK, 0x1C0, 0x3C0⟩, ⟨.G_SETY, 0x180, 0x3C0⟩, ⟨.G_SETX, 0x140, 0x3C0⟩,
   ⟨.G_PIXEL, 0x100, 0x3C0⟩]

/-- The first row of a list that a key selects (R115). -/
def firstMatch (key : BitVec 10) : List OpcodeRow → Option Mnemonic
  | [] => none
  | row :: rest => if key &&& row.mask = row.bits then some row.mnemonic else firstMatch key rest

/-- The bytes column of R108, read in the mnemonic's own context: the `byte_ranges` of opcode_table.json. -/
def Mnemonic.byteRange (b : Byte) : Mnemonic → Bool
  | .HRST => b == 0xFF
  | .NUL => b == 0x00
  | .E_TXTGREEN => b == 0x01
  | .E_TXTGRAY => b == 0x02
  | .E_NOP => 0x03 ≤ b && b ≤ 0x3F
  | .E_GFX => 0x40 ≤ b && b ≤ 0x7F
  | .E_COLOR => 0x80 ≤ b && b ≤ 0xFE
  | .ESC => b == 0x1B
  | .T_CR => b == 0x0D
  | .T_DEL => b == 0x7F
  | .T_CHAR => (0x20 ≤ b && b ≤ 0x7E) || (0x80 ≤ b && b ≤ 0xFE)
  | .T_IGN => (0x01 ≤ b && b ≤ 0x0C) || (0x0E ≤ b && b ≤ 0x1A) || (0x1C ≤ b && b ≤ 0x1F)
  | .G_EXIT => b == 0xC0
  | .G_BLACK => 0xC1 ≤ b && b ≤ 0xFE
  | .G_SETY => 0x80 ≤ b && b ≤ 0xBF
  | .G_SETX => 0x40 ≤ b && b ≤ 0x7F
  | .G_PIXEL => (0x01 ≤ b && b ≤ 0x1A) || (0x1C ≤ b && b ≤ 0x3F)

/-! The spec's assembler. -/

/-- The assembler on one instruction: its byte, or a refusal where an operand is outside its condition (R113). -/
def assemble (i : Instr) : Option Byte := if i.wf then some (encode i) else none

/-- The pseudo-instructions of R114. `text` takes the codes of its characters (log 19). -/
inductive Pseudo where
  | enterGfx
  | setColor (p : BitVec 6)
  | resetGreen
  | resetGray
  | gAt (x y : Coord6)
  | gPut (p : BitVec 6)
  | text (codes : List Byte)
deriving DecidableEq, Repr

/-- The expansion column of R114; `G.PUT 27` is refused. -/
def expandPseudo : Pseudo → Option (List Instr)
  | .enterGfx => some [.esc, .eGfx 0]
  | .setColor p => some [.esc, .eColor false p]
  | .resetGreen => some [.esc, .eTxtGreen]
  | .resetGray => some [.esc, .eTxtGray]
  | .gAt x y => some [.gSetX x, .gSetY y]
  | .gPut p => if p = 27 then none else if p = 0 then some [.gBlack 1] else some [.gPixel p]
  | .text codes => some (codes.map .tChar)

/-- The bytes of a pseudo-instruction, refused where its expansion or one of its instructions is (R113, R114). -/
def assemblePseudo (p : Pseudo) : Option (List Byte) := (expandPseudo p).bind (·.mapM assemble)

/-! The host's view of the table. -/

/-- The byte of a table word: `key[7:0]` (R100). -/
def tableByte (w : Nat) : Byte := BitVec.ofNat 8 w
/-- The mode flag of a table word: `key[8]` (R100). -/
def tableGfx (w : Nat) : Bool := w.testBit 8
/-- The escape flag of a table word: `key[9]` (R100). -/
def tableEsc (w : Nat) : Bool := w.testBit 9

/-- The instruction that the decoder reads from a word numbered as opcode_table.json numbers its rows: the ten-bit key
of R100, the byte in bits 7:0 and the two flags above it. A word of more than ten bits is no key (log 18). -/
def decodeTableWord (_nbits w : Nat) : Option Instr :=
  if w < 1024 then some (decode (tableEsc w) (tableGfx w) (tableByte w)) else none

end Sys2Proof
end

