-- ==== Sys2Proof/Machine/TextScreen.lean ====
section
/-! DEFINITION. The TextScreen micro-operations (R140 to R149). -/

namespace Sys2Proof.Machine

/-- The grid after one scroll (R142): row `i` takes row `i+1` for rows 0..6, row 7 becomes blank. -/
def scrolledGrid (g : TextGrid) : TextGrid :=
  #v[g[1], g[2], g[3], g[4], g[5], g[6], g[7], Vector.replicate 10 blankCell]

/-- `scrollIfNeeded()` of R142. -/
def scrollIfNeeded (s : State) : State :=
  if s.curR > 7 then (s.setCell (scrolledGrid s.cell)).setCurR (s.curR - 1) else s

/-- The cursor's advance inside `putAdvance` (R141): one column right, past column 9 to column 0 of the next row. -/
def advanceCursor (s : State) : State :=
  if s.curC + 1 > 9 then (s.setCurC 0).setCurR (s.curR + 1) else s.setCurC (s.curC + 1)

/-- `putAdvance(ch, color)` of R141: store, advance, scroll if the row ran over. -/
def putAdvance (ch : Byte) (color : RGB) (s : State) : State :=
  scrollIfNeeded (advanceCursor (cellWrite s.curC s.curR ch color s))

/-- `writeChar(ch)` of R140. -/
def writeChar (ch : Byte) (s : State) : State := putAdvance ch s.curColor s

/-- `moveUp()` of R145. -/
def moveUp (s : State) : State := s.setCurR (if s.curR = 0 then 7 else s.curR - 1)

/-- `moveDown()` of R146. No byte reaches it. -/
def moveDown (s : State) : State := s.setCurR (if s.curR = 7 then 0 else s.curR + 1)

/-- `moveLeft()` of R143: toroidal, so from (0, 0) to (9, 7) (the spec's D5: log 12). -/
def moveLeft (s : State) : State :=
  if s.curC = 0 then moveUp (s.setCurC 9) else s.setCurC (s.curC - 1)

/-- `moveRight()` of R144: toroidal, so from (9, 7) to (0, 0) (the spec's D5: log 12). No byte reaches it. -/
def moveRight (s : State) : State :=
  if s.curC = 9 then moveDown (s.setCurC 0) else s.setCurC (s.curC + 1)

/-- `backspace()` of R147: left, store-and-advance a blank, left again (the spec's D6: log 12). -/
def backspace (s : State) : State := moveLeft (putAdvance Config.space black (moveLeft s))

/-- `newLine()` of R148. -/
def newLine (s : State) : State := scrollIfNeeded ((s.setCurC 0).setCurR (s.curR + 1))

/-- `resetText(fg)` of R149. -/
def resetText (fg : RGB) (s : State) : State :=
  (((s.setCell (fillGrid 10 8 blankCell)).setCurC 0).setCurR 0).setCurColor fg

end Sys2Proof.Machine
end

