-- ==== Sys2Proof/Machine/Escape.lean ====
section
/-! DEFINITION. The escape arguments: E.TXTGRAY, E.TXTGREEN, E.COLOR, E.GFX, E.NOP (R220 to R225). -/

namespace Sys2Proof.Machine

/-- The common step of every escape argument (R220): `esc <- false`, before the command. -/
def escapeArgument (s : State) : State := s.setEsc false

/-- `E.TXTGRAY` (R221). -/
def execETxtGray (s : State) : Host.Outcome State Fault Refusal :=
  .next (resetText Config.grayFg ((escapeArgument s).setGfx false))

/-- `E.TXTGREEN` (R222). -/
def execETxtGreen (s : State) : Host.Outcome State Fault Refusal :=
  .next (resetText Config.greenFg ((escapeArgument s).setGfx false))

/-- `E.COLOR` (R223): bit 6 is ignored. -/
def execEColor (_alt : Bool) (p : BitVec 6) (s : State) : Host.Outcome State Fault Refusal :=
  .next ((escapeArgument s).setCurColor (colorDecode p))

/-- `E.GFX` (R224): bits 5:0 are ignored. -/
def execEGfx (_n : BitVec 6) (s : State) : Host.Outcome State Fault Refusal :=
  .next ((escapeArgument s).setGfx true)

/-- `E.NOP` (R225): no further change. -/
def execENop (_n : Byte) (s : State) : Host.Outcome State Fault Refusal := .next (escapeArgument s)

end Sys2Proof.Machine
end

