-- ==== Sys2Proof/Machine/GraphicsScreen.lean ====
section
/-! DEFINITION. The GraphicsScreen micro-operations (R170 to R173). -/

namespace Sys2Proof.Machine

/-- `setPointerX(v)` of R170. -/
def setPointerX (v : Coord6) (s : State) : State := s.setPtrX v

/-- `setPointerY(v)` of R171. -/
def setPointerY (v : Coord6) (s : State) : State := s.setPtrY v

/-- The pointer's advance inside `writeAndAdvance` (R172): row-major, wrapping at both edges. -/
def advancePointer (s : State) : State :=
  if s.ptrX = 63 then (s.setPtrX 0).setPtrY (if s.ptrY = 63 then 0 else s.ptrY + 1) else s.setPtrX (s.ptrX + 1)

/-- `writeAndAdvance(color)` of R172. -/
def writeAndAdvance (color : RGB) (s : State) : State := advancePointer (pixWrite s.ptrX s.ptrY color s)

/-- `resetGfx()` of R173. -/
def resetGfx (s : State) : State :=
  ((s.setPtrX 0).setPtrY 0).setPix (fillGrid 64 64 black)

end Sys2Proof.Machine
end

