-- ==== Sys2Proof/Machine/Graphics.lean ====
section
/-! DEFINITION. The graphics-mode bytes: G.EXIT, G.BLACK, G.SETY, G.SETX, G.PIXEL (R240 to R245). -/

namespace Sys2Proof.Machine

/-- `G.EXIT` (R241). -/
def execGExit (s : State) : Host.Outcome State Fault Refusal := .next (s.setGfx false)

/-- `G.BLACK` (R242): black for every payload (the spec's D17: log 11). -/
def execGBlack (_n : BitVec 6) (s : State) : Host.Outcome State Fault Refusal := .next (writeAndAdvance black s)

/-- `G.SETY` (R243). -/
def execGSetY (y : Coord6) (s : State) : Host.Outcome State Fault Refusal := .next (setPointerY y s)

/-- `G.SETX` (R244). -/
def execGSetX (x : Coord6) (s : State) : Host.Outcome State Fault Refusal := .next (setPointerX x s)

/-- `G.PIXEL` (R245). -/
def execGPixel (p : BitVec 6) (s : State) : Host.Outcome State Fault Refusal :=
  .next (writeAndAdvance (colorDecode p) s)

end Sys2Proof.Machine
end

