-- ==== Sys2Proof/Machine/HardReset.lean ====
section
/-! DEFINITION. Hard reset (R260, R261) and power-on reset (R340). -/

namespace Sys2Proof.Machine

/-- `hardReset()` of R260; the blink state is not among its effects (R261), `esc` is (the spec's D4: log 11). -/
def hardReset (s : State) : State :=
  (resetGfx (resetText Config.grayFg (s.setGfx false))).setEsc false

/-- Power-on reset, the `rst` input (R340): the power-on state of R45. The ports are not part of the block: the inputs
still to come and the free-value index stay (log 4), and there is no frame ("no frame is defined for the reset
itself", R340). -/
def powerOn (s : State) : State := (State.reset.setInputs s.inputs).setFreeCount s.freeCount

end Sys2Proof.Machine
end

