-- ==== Sys2Proof/Machine/Protocol.lean ====
section
/-! DEFINITION. The context-independent bytes: HRST, NUL, ESC (R193 to R195). -/

namespace Sys2Proof.Machine

/-- `HRST` (R193). -/
def execHrst (s : State) : Host.Outcome State Fault Refusal := .next (hardReset s)

/-- `NUL` (R194): no state change; a pending escape stays pending (the spec's D3: log 11). -/
def execNul (s : State) : Host.Outcome State Fault Refusal := .next s

/-- `ESC` (R195): "sets `escapeState = true`; no other effect." -/
def execEsc (s : State) : Host.Outcome State Fault Refusal := .next (s.setEsc true)

end Sys2Proof.Machine
end

