-- ==== Sys2Proof/Machine/TextMode.lean ====
section
/-! DEFINITION. The text-mode bytes: T.CR, T.DEL, T.IGN, T.CHAR (R197 to R200). -/

namespace Sys2Proof.Machine

/-- `T.CR` (R197). -/
def execTCr (s : State) : Host.Outcome State Fault Refusal := .next (newLine s)

/-- `T.DEL` (R198). -/
def execTDel (s : State) : Host.Outcome State Fault Refusal := .next (backspace s)

/-- `T.IGN` (R200): no state change. -/
def execTIgn (_n : Byte) (s : State) : Host.Outcome State Fault Refusal := .next s

/-- `T.CHAR` (R199): the code is stored unchanged (the spec's D22: log 12). -/
def execTChar (c : Byte) (s : State) : Host.Outcome State Fault Refusal := .next (writeChar c s)

end Sys2Proof.Machine
end

