-- ==== Sys2Proof/Machine/Dispatch.lean ====
section
/-! DEFINITION. One arm for each instruction (R191: "Exactly one instruction rule runs per byte"). -/

namespace Sys2Proof.Machine

def exec (i : Instr) (s : State) : Host.Outcome State Fault Refusal :=
  match i with
  | .hrst => Sys2Proof.Machine.execHrst s
  | .nul => Sys2Proof.Machine.execNul s
  | .eTxtGray => Sys2Proof.Machine.execETxtGray s
  | .eTxtGreen => Sys2Proof.Machine.execETxtGreen s
  | .eColor alt p => Sys2Proof.Machine.execEColor alt p s
  | .eGfx n => Sys2Proof.Machine.execEGfx n s
  | .eNop n => Sys2Proof.Machine.execENop n s
  | .esc => Sys2Proof.Machine.execEsc s
  | .tCr => Sys2Proof.Machine.execTCr s
  | .tDel => Sys2Proof.Machine.execTDel s
  | .tIgn n => Sys2Proof.Machine.execTIgn n s
  | .tChar c => Sys2Proof.Machine.execTChar c s
  | .gExit => Sys2Proof.Machine.execGExit s
  | .gBlack n => Sys2Proof.Machine.execGBlack n s
  | .gSetY y => Sys2Proof.Machine.execGSetY y s
  | .gSetX x => Sys2Proof.Machine.execGSetX x s
  | .gPixel p => Sys2Proof.Machine.execGPixel p s

end Sys2Proof.Machine
end

