-- ==== Sys2Proof/Machine/Renderer.lean ====
section
/-! DEFINITION. The Renderer: the frame of a tick, computed from the state, which it does not change (R290 to R293). -/

namespace Sys2Proof.Machine

/-- The frame in which nothing is painted (R290: "the caller has cleared the canvas to BG"). -/
def blankFrame : Frame := fillGrid 64 64 none

/-- Paint the lit pixels of the glyph of `ch` in cell `(c, r)`, and only those (R292, R293; the spec's D13: log 14). -/
def paintGlyph (g : GlyphSource) (ch : Byte) (color : RGB) (c r : Nat) (f : Frame) : Frame :=
  (List.range g.cellH.val).foldl (fun f dy =>
    (List.range g.cellW.val).foldl (fun f dx =>
      if g.lit ch dx dy then gridSet f (c * g.cellW.val + dx) (r * g.cellH.val + dy) (some color) else f) f) f

/-- `renderGfx()` of R291: every pixel at its native coordinate, black ones too. -/
def renderGfx (s : State) : Frame :=
  tabulate 64 64 fun x y => some (s.pixAt x.val y.val)

/-- `renderText()` of R292: every cell's glyph, in the cell's colour. -/
def renderText (g : GlyphSource) (s : State) (f : Frame) : Frame :=
  (List.range 8).foldl (fun f r =>
    (List.range 10).foldl (fun f c => paintGlyph g (s.cellAt c r).ch (s.cellAt c r).color c r f) f) f

/-- `renderCursor()` of R293: an underscore glyph at the cursor cell, in the current colour. -/
def renderCursor (g : GlyphSource) (s : State) (f : Frame) : Frame :=
  paintGlyph g Config.underscore s.curColor s.curC s.curR f

/-- `render(S)` of R290, for a glyph source. -/
def renderWith (g : GlyphSource) (s : State) : Frame :=
  if s.gfx then renderGfx s
  else if s.blinkVisible then renderCursor g s (renderText g s blankFrame)
  else renderText g s blankFrame

/-- `render(S)` of R290, with the machine's glyph source. -/
def render (s : State) : Frame := renderWith Config.glyphs s

/-- The colour the canvas shows at a pixel: what the frame holds there, else `BG` (R13, R31; log 8). -/
def displayed (f : Frame) (x y : Nat) : RGB := (frameAt f x y).getD Config.background

end Sys2Proof.Machine
end

