-- ==== Sys2Proof/Machine/Tick.lean ====
section
/-! DEFINITION. The tick (R190): the input of the step, the dispatch of its byte, the blink update, the frame. -/

namespace Sys2Proof.Machine

/-- What the outside presents in this step (R30): the head of `inputs`. Where the list says nothing more, a tick takes
place all the same, no byte is available, and its time is a free value (logs 1, 2). -/
def nextInput (s : State) : TickInput :=
  match s.inputs with
  | [] => .tick none (Config.freeNow s.freeCount)
  | i :: _ => i

/-- The step has taken its input: the list moves on, or the free value is used up (logs 1, 2). -/
def consumeInput (s : State) : State :=
  match s.inputs with
  | [] => s.setFreeCount (s.freeCount + 1)
  | _ :: rest => s.setInputs rest

/-- `dispatch(S, b)` of R191: decode in the context `(esc, gfx)` as they were before the byte, then run its rule. -/
def dispatch (b : Byte) (s : State) : Host.Outcome State Fault Refusal := exec (decode s.esc s.gfx b) s

/-- Phase (b) of R190: the byte if there is one; in an idle tick `dispatch` is not called (R192). -/
def dispatchInput (byte : Option Byte) (s : State) : Host.Outcome State Fault Refusal :=
  match byte with
  | none => .next s
  | some b => dispatch b s

/-- Phases (c) and (d) of R190, on the state that the byte left: the blink update, then the frame. -/
def finishTick (now : Nat) (s : State) : State :=
  (blinkUpdate now s).setFrame (some (render (blinkUpdate now s)))

/-- `tick(S, in, now)` of R190. -/
def tick (byte : Option Byte) (now : Nat) (s : State) : Host.Outcome State Fault Refusal :=
  match dispatchInput byte s with
  | .next t => .next (finishTick now (consumeInput t))
  | .fault r => .fault r
  | .refused r => .refused r

/-- One step under a given input (R30): a tick, or the power-on reset (R340). -/
def takeInput (i : TickInput) (s : State) : Host.Outcome State Fault Refusal :=
  match i with
  | .tick byte now => tick byte now s
  | .rst => .next (powerOn (consumeInput s))

/-- The state to which the outside delivers, next and at time 0, the byte of a table word, with the two flags of the
word's key (log 3). -/
def deliverWord (s : State) (w : Nat) : State :=
  ((s.setEsc (tableEsc w)).setGfx (tableGfx w)).setInputs (.tick (some (tableByte w)) 0 :: s.inputs)

end Sys2Proof.Machine
end

