-- ==== Sys2Proof/Machine/Step.lean ====
section
/-! DEFINITION. One step of the machine: one tick, or one power-on reset (R30). -/

namespace Sys2Proof.Machine

/-- One step: the input that the outside presents now, taken (R30, R190, R340). -/
def step (s : State) : Host.Outcome State Fault Refusal := takeInput (nextInput s) s

/-- The state in which the instruction of a table word is the next one to run: its byte is the next input and the
flags are those of its decode key. A word has no bits above the key, so `nbits` says nothing more (log 3). -/
def State.withFetchWord (s : State) (_nbits w : Nat) : State := deliverWord s w

end Sys2Proof.Machine
end

