-- ==== Sys2Proof/Safety.lean ====
section
/-! DEFINITION. The terms that claims use: the invariants of the state, and what the shared operations leave behind. -/

namespace Sys2Proof.Machine

/-- "Invariant: cursor always within grid bounds after any operation." (R36) -/
abbrev CursorInGrid (s : State) : Prop := s.curC ≤ 9 ∧ s.curR ≤ 7

/-- A quantized colour: one that `decode` gives for some six-bit code (R131). -/
abbrev Quantized (k : RGB) : Prop := ∃ p : BitVec 6, colorDecode p = k

/-- Every pixel holds a quantized colour (R38). -/
abbrev PixelsQuantized (s : State) : Prop := ∀ x < 64, ∀ y < 64, Quantized (s.pixAt x y)

/-- No pixel has colour 27, which "cannot be written to the pixel buffer at all" (R112). -/
abbrev NoPixelOfColour27 (s : State) : Prop := ∀ x < 64, ∀ y < 64, s.pixAt x y ≠ colorDecode 27

/-- A code that a cell can hold: one of 0x20..0x7E, 0x80..0xFE, SPACE among them (R35). -/
abbrev WritableCode (ch : Byte) : Prop := (0x20 ≤ ch ∧ ch ≤ 0x7E) ∨ (0x80 ≤ ch ∧ ch ≤ 0xFE)

/-- Every cell holds a writable code (R35). -/
abbrev CellsWritable (s : State) : Prop := ∀ c < 10, ∀ r < 8, WritableCode (s.cellAt c r).ch

/-- A colour that the text screen can hold: one of the two foregrounds, or a quantized colour, BLACK among them
(R37, R132, R149). -/
abbrev TextColour (k : RGB) : Prop := k = Config.grayFg ∨ k = Config.greenFg ∨ Quantized k

/-- The current colour and every cell's colour are text colours. -/
abbrev TextColoursKnown (s : State) : Prop :=
  TextColour s.curColor ∧ ∀ c < 10, ∀ r < 8, TextColour (s.cellAt c r).color

/-- Every cell of the grid is `BLANK` (R18, R149). -/
abbrev GridBlank (s : State) : Prop := ∀ c < 10, ∀ r < 8, s.cellAt c r = blankCell

/-- Every pixel of the buffer is `BLACK` (R18, R173). -/
abbrev BufferBlack (s : State) : Prop := ∀ x < 64, ∀ y < 64, s.pixAt x y = ⟨0, 0, 0⟩

/-- `t` differs from `s` in the cells and the cursor at most. -/
abbrev OnlyGridAndCursor (s t : State) : Prop := t = { s with cell := t.cell, curC := t.curC, curR := t.curR }

/-- `t` differs from `s` in the pixels and the pointer at most. -/
abbrev OnlyPixelsAndPointer (s t : State) : Prop := t = { s with pix := t.pix, ptrX := t.ptrX, ptrY := t.ptrY }

/-- `t` is `s` with `k` stored at the pointer, no other pixel changed, and the pointer one further in row-major order,
wrapping at both edges (R172). -/
abbrev PixelWrittenAndAdvanced (k : RGB) (s t : State) : Prop :=
  OnlyPixelsAndPointer s t ∧
  (∀ x < 64, ∀ y < 64, t.pixAt x y = if x = s.ptrX.toNat ∧ y = s.ptrY.toNat then k else s.pixAt x y) ∧
  (s.ptrX ≠ 63 → t.ptrX.toNat = s.ptrX.toNat + 1 ∧ t.ptrY = s.ptrY) ∧
  (s.ptrX = 63 → s.ptrY ≠ 63 → t.ptrX = 0 ∧ t.ptrY.toNat = s.ptrY.toNat + 1) ∧
  (s.ptrX = 63 → s.ptrY = 63 → t.ptrX = 0 ∧ t.ptrY = 0)

/-- `t` shows `s` scrolled up by one row: rows 0..6 hold what rows 1..7 held, row 7 is blank (R142). -/
abbrev ScrolledUp (before after : Nat → Nat → TextCell) : Prop :=
  (∀ c < 10, ∀ r < 7, after c r = before c (r + 1)) ∧ ∀ c < 10, after c 7 = blankCell

/-- `t` is reached from `s` by the listed instructions, each with the time of its tick: each is well formed and is read
in the context that the flags before it make, has its effect, and is followed by the end of the tick (R190, R191). -/
def RunsInstructions : List (Instr × Nat) → State → State → Prop
  | [], s, t => t = s
  | (i, now) :: rest, s, t =>
    i.wf = true ∧ i.inContext s.esc s.gfx = true ∧
    ∃ u, exec i s = .next u ∧ RunsInstructions rest (finishTick now (consumeInput u)) t

/-- A run of `k` steps that does not stop: a safe run of this machine (R310 says that every run is one). -/
def RunsOn (s : State) (k : Nat) : Prop := ∃ t, core.run k s = .next t

end Sys2Proof.Machine
end

