-- ==== Sys2Proof/Certificates/Slice0/Obligations.lean ====
section
/-! DEFINITION. The statements for the provers. Where one rests on a decision of the spec's own or of the model's, its
docstring says so and names the decision or the log entry. That all that a rule does not write keeps its value is R17,
the spec's D2 (log 22). -/

open Sys2Proof Sys2Proof.Machine

/-! Encoding. -/

/-- Decoding the byte of a well-formed instruction, in a context in which it is read, gives that instruction (R107,
R108, R113). Rests on the spec's D3, D4, D18 (log 11). -/
def Obligations.DecodeOfEncodeIsInstruction : Prop :=
  ∀ (esc gfx : Bool) (i : Instr), i.wf = true → i.inContext esc gfx = true → decode esc gfx (encode i) = i

/-- Every byte in every context decodes to a well-formed instruction of that context, whose byte it is: no key is
refused and no bit is lost (R100, R107, R111). Rests on the spec's D3, D18 (log 11). -/
def Obligations.EncodeOfDecodeIsByte : Prop :=
  ∀ (esc gfx : Bool) (b : Byte),
    (decode esc gfx b).wf = true ∧ (decode esc gfx b).inContext esc gfx = true ∧ encode (decode esc gfx b) = b

/-- The decoder selects a mnemonic exactly where the opcode map of R108 lists the byte under the context. Rests on the
spec's D3, D18 (log 11). -/
def Obligations.DecodeFollowsOpcodeMap : Prop :=
  ∀ (esc gfx : Bool) (b : Byte) (m : Mnemonic),
    (decode esc gfx b).mnemonic = m ↔ m.inContext esc gfx = true ∧ m.byteRange b = true

/-- The first row of opcode_table.json that a key selects is the decoder's mnemonic (R115, which the spec marks as
derived). -/
def Obligations.TableFirstMatchAgreesWithDecode : Prop :=
  ∀ (esc gfx : Bool) (b : Byte),
    firstMatch (decodeKey esc gfx b) opcodeRows = some (decode esc gfx b).mnemonic

/-- Bytes written out from the encoding decode to the instructions they stand for (vectors DEC-1, DEC-9, DEC-13,
DEC-15, DEC-19, DEC-22, DEC-25, DEC-33, DEC-37, DEC-44 of 95_test_vectors.md). -/
def Obligations.WrittenBytesDecode : Prop :=
  decode false false 0b01000001 = .tChar 0x41 ∧ decode false false 0b00001101 = .tCr ∧
  decode false false 0b00011011 = .esc ∧ decode false true 0b00000001 = .gPixel 1 ∧
  decode false true 0b01000000 = .gSetX 0 ∧ decode false true 0b10111111 = .gSetY 63 ∧
  decode false true 0b11111110 = .gBlack 62 ∧ decode true false 0b00111111 = .eNop 0x3F ∧
  decode true false 0b10111111 = .eColor false 63 ∧ decode true true 0b01000001 = .eGfx 1

/-- What has no encoding (R112, which the spec marks as derived): pixels of payload 0 and 27, black with payload 0 or
63, the characters outside the writable codes; and every text colour has one, 63 exactly one. That 0xFF is neither
black 63 nor a second byte of colour 63 is the spec's D18 (log 11). -/
def Obligations.UnsendableValues : Prop :=
  ∀ (esc gfx : Bool) (b : Byte),
    (decode esc gfx b ≠ .gPixel 0 ∧ decode esc gfx b ≠ .gPixel 27) ∧
    (decode esc gfx b ≠ .gBlack 0 ∧ decode esc gfx b ≠ .gBlack 63) ∧
    (∀ c, decode esc gfx b = .tChar c → WritableCode c) ∧
    (∀ p : BitVec 6, decode true gfx (0x80 ||| p.setWidth 8) = .eColor false p) ∧
    ((∃ alt, decode true gfx b = .eColor alt 63) ↔ b = 0xBF)

/-- The bytes of the pseudo-instructions (R114, the spec's D19: log 19); `TEXT` is refused exactly where a code has no
character instruction (R113). -/
def Obligations.PseudoInstructionBytes : Prop :=
  assemblePseudo .enterGfx = some [0x1B, 0x40] ∧
  (∀ p : BitVec 6, assemblePseudo (.setColor p) = some [0x1B, 0x80 ||| p.setWidth 8]) ∧
  assemblePseudo .resetGreen = some [0x1B, 0x01] ∧ assemblePseudo .resetGray = some [0x1B, 0x02] ∧
  (∀ x y : Coord6, assemblePseudo (.gAt x y) = some [0x40 ||| x.setWidth 8, 0x80 ||| y.setWidth 8]) ∧
  assemblePseudo (.gPut 0) = some [0xC1] ∧ assemblePseudo (.gPut 27) = none ∧
  (∀ p : BitVec 6, p ≠ 0 → p ≠ 27 → assemblePseudo (.gPut p) = some [p.setWidth 8]) ∧
  (∀ codes : List Byte, (∀ c ∈ codes, WritableCode c) → assemblePseudo (.text codes) = some codes) ∧
  ∀ codes : List Byte, (∃ c ∈ codes, ¬ WritableCode c) → assemblePseudo (.text codes) = none

/-! The colour quantizer. -/

/-- R130: the table of levels, and red, green, blue from the low, the middle and the high two bits. -/
def Obligations.QuantizerTable : Prop :=
  (level 0 = 0 ∧ level 1 = 63 ∧ level 2 = 127 ∧ level 3 = 255) ∧
  ∀ r g b : BitVec 2, colorDecode (b ++ g ++ r : BitVec (2 + 2 + 2)) = ⟨level r, level g, level b⟩

/-- `code` and `decode` are inverse to each other between the 64 codes and the quantized colours (R131, R132, which the
spec marks as derived); off them `code` has no value, which is the model's choice (log 20). -/
def Obligations.ColourCodesAndColoursCorrespond : Prop :=
  (∀ p : BitVec 6, colorCode (colorDecode p) = some p) ∧
  (∀ (k : RGB) (p : BitVec 6), colorCode k = some p → colorDecode p = k) ∧
  ∀ k : RGB, ¬ Quantized k → colorCode k = none

/-! Text mode. -/

/-- R199, R140: `T.CHAR` completes; it stores the character and the current colour at the cursor and advances it, to
the next row past column 9, and scrolls once past row 7. Nothing else changes. -/
def Obligations.CharacterStoredAndCursorAdvanced : Prop :=
  (∀ b : Byte, WritableCode b → decode false false b = .tChar b) ∧
  ∀ (ch : Byte) (s : State), CursorInGrid s →
    ∃ t, exec (.tChar ch) s = .next t ∧ OnlyGridAndCursor s t ∧
      (s.curC < 9 → t.curC = s.curC + 1 ∧ t.curR = s.curR ∧ ∀ c < 10, ∀ r < 8,
        t.cellAt c r = if c = s.curC ∧ r = s.curR then ⟨ch, s.curColor⟩ else s.cellAt c r) ∧
      (s.curC = 9 → s.curR < 7 → t.curC = 0 ∧ t.curR = s.curR + 1 ∧ ∀ c < 10, ∀ r < 8,
        t.cellAt c r = if c = 9 ∧ r = s.curR then ⟨ch, s.curColor⟩ else s.cellAt c r) ∧
      (s.curC = 9 → s.curR = 7 → t.curC = 0 ∧ t.curR = 7 ∧
        ScrolledUp (fun c r => if c = 9 ∧ r = 7 then ⟨ch, s.curColor⟩ else s.cellAt c r) t.cellAt)

/-- R197, R148: `T.CR` completes; the cursor goes to column 0 of the next row, and on row 7 the grid scrolls instead.
Nothing else changes. -/
def Obligations.CarriageReturnStartsNewLine : Prop :=
  decode false false 0x0D = .tCr ∧
  ∀ s : State, CursorInGrid s →
    ∃ t, exec .tCr s = .next t ∧ OnlyGridAndCursor s t ∧ t.curC = 0 ∧
      (s.curR < 7 → t.curR = s.curR + 1 ∧ ∀ c < 10, ∀ r < 8, t.cellAt c r = s.cellAt c r) ∧
      (s.curR = 7 → t.curR = 7 ∧ ScrolledUp s.cellAt t.cellAt)

/-- `T.DEL` completes; the cursor moves one cell left and that cell becomes blank, and at (0, 0) the grid scrolls and
the cursor ends at (9, 6). Nothing else changes. Rests on the spec's D5 and D6, its reading of R143 and R147 (log 12). -/
def Obligations.DeleteClearsCellToTheLeft : Prop :=
  decode false false 0x7F = .tDel ∧
  ∀ s : State, CursorInGrid s →
    ∃ t, exec .tDel s = .next t ∧ OnlyGridAndCursor s t ∧
      (1 ≤ s.curC → t.curC = s.curC - 1 ∧ t.curR = s.curR ∧ ∀ c < 10, ∀ r < 8,
        t.cellAt c r = if c = s.curC - 1 ∧ r = s.curR then blankCell else s.cellAt c r) ∧
      (s.curC = 0 → 1 ≤ s.curR → t.curC = 9 ∧ t.curR = s.curR - 1 ∧ ∀ c < 10, ∀ r < 8,
        t.cellAt c r = if c = 9 ∧ r = s.curR - 1 then blankCell else s.cellAt c r) ∧
      (s.curC = 0 → s.curR = 0 → t.curC = 9 ∧ t.curR = 6 ∧
        ScrolledUp (fun c r => if c = 9 ∧ r = 7 then blankCell else s.cellAt c r) t.cellAt)

/-- The source's property W5: a backspace right after a character restores the cursor and clears the cell; at (9, 7),
where the character scrolled, the cleared cell has moved to (9, 6) and the cursor is there (TS-13, TS-14). Rests on the
spec's D6 (log 12). -/
def Obligations.BackspaceUndoesWriteChar : Prop :=
  ∀ (ch : Byte) (s : State), CursorInGrid s →
    (¬ (s.curC = 9 ∧ s.curR = 7) →
      backspace (writeChar ch s) = { s with cell := gridSet s.cell s.curC s.curR blankCell }) ∧
    (s.curC = 9 ∧ s.curR = 7 →
      (backspace (writeChar ch s)).curC = 9 ∧ (backspace (writeChar ch s)).curR = 6 ∧
      ScrolledUp (fun c r => if c = 9 ∧ r = 7 then blankCell else s.cellAt c r)
        (backspace (writeChar ch s)).cellAt)

/-- R145, R146: up and down wrap between row 0 and row 7, and change the row only. -/
def Obligations.VerticalMovesWrapRows : Prop :=
  ∀ s : State, s.curR ≤ 7 →
    moveUp s = { s with curR := (s.curR + 7) % 8 } ∧ moveDown s = { s with curR := (s.curR + 1) % 8 }

/-- Left and right move by one place in row-major order around the whole grid, change the cursor only, and undo each
other. Rests on the spec's D5, its reading of R143 and R144 (log 12). -/
def Obligations.HorizontalMovesAreToroidal : Prop :=
  ∀ s : State, CursorInGrid s →
    moveLeft s = { s with curC := (moveLeft s).curC, curR := (moveLeft s).curR } ∧
    moveRight s = { s with curC := (moveRight s).curC, curR := (moveRight s).curR } ∧
    (moveLeft s).curR * 10 + (moveLeft s).curC = (s.curR * 10 + s.curC + 79) % 80 ∧
    (moveRight s).curR * 10 + (moveRight s).curC = (s.curR * 10 + s.curC + 1) % 80 ∧
    moveRight (moveLeft s) = s ∧ moveLeft (moveRight s) = s

/-- The source's property W3, by R140: characters written one after another from (0, 0) fill the grid left to right and
top to bottom in the current colour; the 80th scrolls once (R349, SV-3). -/
def Obligations.TypingFillsGridInReadingOrder : Prop :=
  ∀ (l : List Byte) (s t : State), s.curC = 0 → s.curR = 0 → t = l.foldl (fun u ch => writeChar ch u) s →
    (l.length ≤ 79 →
      t.curC = l.length % 10 ∧ t.curR = l.length / 10 ∧
      (∀ k (h : k < l.length), t.cellAt (k % 10) (k / 10) = ⟨l[k], s.curColor⟩) ∧
      ∀ k, l.length ≤ k → k < 80 → t.cellAt (k % 10) (k / 10) = s.cellAt (k % 10) (k / 10)) ∧
    (l.length = 80 →
      t.curC = 0 ∧ t.curR = 7 ∧
      (∀ k (h : k < l.length), 10 ≤ k → t.cellAt (k % 10) (k / 10 - 1) = ⟨l[k], s.curColor⟩) ∧
      ∀ c < 10, t.cellAt c 7 = blankCell)

/-- R200: the 29 other text-mode codes decode to `T.IGN`, which completes and changes nothing. -/
def Obligations.OtherTextCodesAreIgnored : Prop :=
  (∀ b : Byte, (0x01 ≤ b ∧ b ≤ 0x0C) ∨ (0x0E ≤ b ∧ b ≤ 0x1A) ∨ (0x1C ≤ b ∧ b ≤ 0x1F) →
    decode false false b = .tIgn b) ∧
  ∀ (n : Byte) (s : State), exec (.tIgn n) s = .next s

/-! Context-independent bytes. -/

/-- 0x00 is `NUL` in every context, completes and changes nothing, a pending escape included (R194; with `esc` set this
is the spec's D3: log 11). -/
def Obligations.NulChangesNothing : Prop :=
  (∀ esc gfx : Bool, decode esc gfx 0x00 = .nul) ∧ ∀ s : State, exec .nul s = .next s

/-- R195: 0x1B with `esc` clear is `ESC` in either mode; it completes, sets `esc` and changes nothing else; with `esc`
set 0x1B is the escape argument `E.NOP`, which leaves `esc` clear. -/
def Obligations.EscapeMarkerSetsEscape : Prop :=
  (∀ gfx : Bool, decode false gfx 0x1B = .esc) ∧ (∀ gfx : Bool, decode true gfx 0x1B = .eNop 0x1B) ∧
  ∀ s : State, exec .esc s = .next { s with esc := true } ∧ exec (.eNop 0x1B) s = .next { s with esc := false }

/-- 0xFF is `HRST` in every context; it completes: text mode, no escape, a blank grid, cursor (0, 0), gray, a black
buffer, pointer (0, 0), and nothing else changes, the blink state included (R193, R260, R261). Rests on the spec's D4
for `esc` and D18 for the context (log 11). -/
def Obligations.HardResetRestoresBothScreens : Prop :=
  (∀ esc gfx : Bool, decode esc gfx 0xFF = .hrst) ∧
  ∀ s : State, ∃ t, exec .hrst s = .next t ∧ GridBlank t ∧ BufferBlack t ∧
    t = { s with
      gfx := false, esc := false, cell := t.cell, curC := 0, curR := 0, curColor := Config.grayFg,
      pix := t.pix, ptrX := 0, ptrY := 0 }

/-- After a step that takes 0xFF nothing is left of the state before it but the blink state and the ports: two states
that agree on these step to the same state (R311, R344). Rests on the spec's D4, D18 (log 11); the
list of inputs is the model's form of the ports (log 1). -/
def Obligations.HardResetForgetsTheState : Prop :=
  ∀ (s s' : State) (now : Nat) (rest : List TickInput),
    s.inputs = .tick (some 0xFF) now :: rest → s'.inputs = .tick (some 0xFF) now :: rest →
    s.blinkVisible = s'.blinkVisible → s.blinkDeadline = s'.blinkDeadline → s.freeCount = s'.freeCount →
    step s = step s'

/-! Escape arguments. -/

/-- R221, R222: escape arguments 0x02 and 0x01 complete: `esc` and `gfx` clear, a blank grid, cursor (0, 0), the gray
or the green foreground; pixels, pointer and all else are kept. -/
def Obligations.TextResetsBlankGridAndSetForeground : Prop :=
  (∀ gfx : Bool, decode true gfx 0x02 = .eTxtGray ∧ decode true gfx 0x01 = .eTxtGreen) ∧
  ∀ s : State,
    (∃ t, exec .eTxtGray s = .next t ∧ GridBlank t ∧
      t = { s with
        gfx := false, esc := false, cell := t.cell, curC := 0, curR := 0, curColor := Config.grayFg }) ∧
    (∃ t, exec .eTxtGreen s = .next t ∧ GridBlank t ∧
      t = { s with
        gfx := false, esc := false, cell := t.cell, curC := 0, curR := 0, curColor := Config.greenFg })

/-- R223: escape arguments 0x80..0xFE complete: `esc` clears and the current colour becomes `decode(b[5:0])`, bit 6
ignored; nothing else changes, in graphics mode nothing visible; 63 is reachable only as 0xBF (R112). That 0xFF is no
second byte of 63 rests on the spec's D18 (log 11). -/
def Obligations.ColourCommandSetsCurrentColour : Prop :=
  (∀ (gfx : Bool) (b : Byte), 0x80 ≤ b → b ≤ 0xFE →
    decode true gfx b = .eColor (b.getLsbD 6) (b.extractLsb' 0 6)) ∧
  (∀ (gfx : Bool) (b : Byte), (∃ alt, decode true gfx b = .eColor alt 63) ↔ b = 0xBF) ∧
  ∀ (alt : Bool) (p : BitVec 6) (s : State),
    exec (.eColor alt p) s = .next { s with esc := false, curColor := colorDecode p } ∧
    (s.gfx = true → ∀ g : GlyphSource,
      renderWith g { s with esc := false, curColor := colorDecode p } = renderWith g s)

/-- R224: escape arguments 0x40..0x7F complete: `esc` clears, `gfx` is set, bits 5:0 are ignored, nothing else
changes; the bytes that follow are the graphics dispatcher's, and graphics mode stays until an instruction that leaves
it. -/
def Obligations.GraphicsCommandEntersGraphicsMode : Prop :=
  (∀ (gfx : Bool) (b : Byte), 0x40 ≤ b → b ≤ 0x7F → decode true gfx b = .eGfx (b.extractLsb' 0 6)) ∧
  (∀ (n : BitVec 6) (s : State), exec (.eGfx n) s = .next { s with esc := false, gfx := true }) ∧
  (∀ b : Byte, b ≠ 0x00 → b ≠ 0x1B → b ≠ 0xFF → decode false true b = decodeGraphics b) ∧
  ∀ (i : Instr) (s t : State), s.gfx = true → exec i s = .next t →
    t.gfx = true ∨ i = .hrst ∨ i = .eTxtGray ∨ i = .eTxtGreen ∨ i = .gExit

/-- R225: escape arguments 0x03..0x3F complete: `esc` clears and nothing else changes. -/
def Obligations.OtherEscapeArgumentsOnlyClearEscape : Prop :=
  (∀ (gfx : Bool) (b : Byte), 0x03 ≤ b → b ≤ 0x3F → decode true gfx b = .eNop b) ∧
  ∀ (n : Byte) (s : State), exec (.eNop n) s = .next { s with esc := false }

/-- The mode flag does not change how a byte is decoded while an escape is pending (R196; for 0x00 and 0xFF the spec's
D3 and D18: log 11). -/
def Obligations.EscapeArgumentIgnoresMode : Prop :=
  ∀ b : Byte, decode true true b = decode true false b

/-! Graphics mode. -/

/-- R245, R172: `G.PIXEL` completes; it stores `decode(p)` at the pointer and advances the pointer in row-major order,
wrapping at both edges. Nothing else changes. Payloads 0 and 27 cannot be sent: 0x00 is `NUL`, 0x1B is `ESC`. -/
def Obligations.PixelStoredAndPointerAdvanced : Prop :=
  (∀ b : Byte, (0x01 ≤ b ∧ b ≤ 0x1A) ∨ (0x1C ≤ b ∧ b ≤ 0x3F) → decode false true b = .gPixel (b.extractLsb' 0 6)) ∧
  decode false true 0x00 = .nul ∧ decode false true 0x1B = .esc ∧
  ∀ (p : BitVec 6) (s : State),
    ∃ t, exec (.gPixel p) s = .next t ∧ PixelWrittenAndAdvanced (colorDecode p) s t

/-- `G.BLACK` completes; it stores black at the pointer whatever the payload, and advances as `G.PIXEL` does (R242,
R172). That the payload selects nothing is the spec's D17 (log 11). -/
def Obligations.BlackPixelStoredAndPointerAdvanced : Prop :=
  (∀ b : Byte, 0xC1 ≤ b → b ≤ 0xFE → decode false true b = .gBlack (b.extractLsb' 0 6)) ∧
  ∀ (n : BitVec 6) (s : State), ∃ t, exec (.gBlack n) s = .next t ∧ PixelWrittenAndAdvanced ⟨0, 0, 0⟩ s t

/-- R243, R244: `G.SETY` and `G.SETX` complete; each sets its coordinate of the pointer to the payload and nothing
else. -/
def Obligations.PointerCoordinatesSetFromPayload : Prop :=
  (∀ b : Byte, 0x80 ≤ b → b ≤ 0xBF → decode false true b = .gSetY (b.extractLsb' 0 6)) ∧
  (∀ b : Byte, 0x40 ≤ b → b ≤ 0x7F → decode false true b = .gSetX (b.extractLsb' 0 6)) ∧
  ∀ (v : Coord6) (s : State),
    exec (.gSetY v) s = .next { s with ptrY := v } ∧ exec (.gSetX v) s = .next { s with ptrX := v }

/-- R241: 0xC0 is `G.EXIT`, which completes, clears `gfx` and changes nothing else; the text screen is painted from the
state so reached. -/
def Obligations.ExitReturnsToTextMode : Prop :=
  decode false true 0xC0 = .gExit ∧ ∀ s : State,
    exec .gExit s = .next { s with gfx := false } ∧
    ∀ g : GlyphSource, renderWith g { s with gfx := false } =
      if s.blinkVisible then renderCursor g s (renderText g s blankFrame) else renderText g s blankFrame

/-- Writing one colour 4096 times, from wherever the pointer is, fills the whole buffer and brings the pointer back
(R172, GS-7); nothing else changes. -/
def Obligations.BufferFilledByItsSizeInWrites : Prop :=
  ∀ (k : RGB) (s : State), (writeAndAdvance k)^[4096] s = { s with pix := fillGrid 64 64 k }

/-! What an instruction can change at all. -/

/-- The flags are written by the listed instructions and by no other (R33, R34, R44). That hard reset clears `esc` is
the spec's D4, that `NUL` keeps a pending escape its D3 (log 11). -/
def Obligations.FlagsWrittenOnlyAsListed : Prop :=
  ∀ (i : Instr) (s t : State), exec i s = .next t →
    t.gfx = (match i.mnemonic with
      | .HRST | .E_TXTGRAY | .E_TXTGREEN | .G_EXIT => false
      | .E_GFX => true
      | _ => s.gfx) ∧
    t.esc = (match i.mnemonic with
      | .ESC => true
      | .HRST | .E_TXTGRAY | .E_TXTGREEN | .E_COLOR | .E_GFX | .E_NOP => false
      | _ => s.esc)

/-- No byte writes the blink state (R40, R43, R261, R270), nor the ports, which are the model's fields (logs 1, 2, 5). -/
def Obligations.NoByteWritesBlinkOrPorts : Prop :=
  ∀ (i : Instr) (s t : State), exec i s = .next t →
    t.blinkVisible = s.blinkVisible ∧ t.blinkDeadline = s.blinkDeadline ∧
    t.inputs = s.inputs ∧ t.frame = s.frame ∧ t.freeCount = s.freeCount

/-- Each screen keeps its content while the other mode is active (R315): a step in text mode leaves the pixels and the
pointer, and a step in graphics mode with no escape pending leaves the grid, the cursor and the current colour, unless
it takes 0xFF or the reset input. The inputs are the model's form of the ports, a tick without a byte past the end of
their list its choice (logs 1, 2). -/
def Obligations.EachScreenKeptWhileTheOtherIsActive : Prop :=
  ∀ s t : State, nextInput s ≠ .rst → (∀ now, nextInput s ≠ .tick (some 0xFF) now) → step s = .next t →
    (s.gfx = false → t.pix = s.pix ∧ t.ptrX = s.ptrX ∧ t.ptrY = s.ptrY) ∧
    (s.gfx = true → s.esc = false →
      t.cell = s.cell ∧ t.curC = s.curC ∧ t.curR = s.curR ∧ t.curColor = s.curColor)

/-- A pending escape stays pending over any number of ticks without a byte or with 0x00 (R34, R192, R346; for 0x00 the
spec's D3: log 11). That the steps past the end of the input list are ticks without a byte is the model's choice
(log 2). -/
def Obligations.EscapeStaysPendingOverIdleTicks : Prop :=
  ∀ (n : Nat) (s t : State), s.esc = true →
    (∀ i ∈ s.inputs.take n, ∃ now, i = .tick none now ∨ i = .tick (some 0x00) now) →
    core.run n s = .next t → t.esc = true

/-! The tick. -/

/-- R191: a step that takes a byte runs the instruction that the byte decodes to under the flags before it, then the
blink update at the tick's time, and outputs the frame of the state so reached; the input list moves on. The list and the field of the frame are the model's form of the
ports (logs 1, 5). -/
def Obligations.StepRunsDecodedInstruction : Prop :=
  ∀ (s t : State) (b : Byte) (now : Nat) (rest : List TickInput) (i : Instr),
    s.inputs = .tick (some b) now :: rest → decode s.esc s.gfx b = i → i.wf = true → exec i s = .next t →
    step s = .next
      { blinkUpdate now { t with inputs := rest } with
        frame := some (render (blinkUpdate now { t with inputs := rest })) }

/-- A program is the bytes of its instructions: where the outside delivers the encodings of a list of instructions, each
well formed and read in the context in which it stands, the run of as many steps runs exactly these instructions, and
what was to be delivered after them still is (R100, R107, R113, R191). Rests on the spec's D3, D4, D18 (log 11) and on
the input list (log 1). -/
def Obligations.EncodedProgramRunsItsInstructions : Prop :=
  ∀ (program : List (Instr × Nat)) (rest : List TickInput) (s t : State),
    s.inputs = program.map (fun p => .tick (some (encode p.1)) p.2) ++ rest → RunsInstructions program s t →
    core.run program.length s = .next t ∧ t.inputs = rest

/-- A table word placed by `withFetchWord` is the next instruction to run, with the byte at time 0 and the inputs of the
state still to come: the model's form of a fetch (log 3). -/
def Obligations.FetchWordRunsDecodedInstruction : Prop :=
  ∀ (s t : State) (nbits w : Nat) (i : Instr), decodeTableWord nbits w = some i →
    exec i (s.withFetchWord nbits w) = .next t →
    step (s.withFetchWord nbits w) = .next
      { blinkUpdate 0 { t with inputs := s.inputs } with
        frame := some (render (blinkUpdate 0 { t with inputs := s.inputs })) }

/-- R192: a tick without a byte runs only the blink update and the renderer. The list and the field of the frame are the
model's form of the ports (logs 1, 5). -/
def Obligations.IdleTickOnlyBlinksAndRenders : Prop :=
  ∀ (s : State) (now : Nat) (rest : List TickInput), s.inputs = .tick none now :: rest →
    step s = .next
      { blinkUpdate now { s with inputs := rest } with
        frame := some (render (blinkUpdate now { s with inputs := rest })) }

/-- Where the input list is empty the step is an idle tick at a free time, a fresh one for each such step: the model's
choice (logs 1, 2), for every value of the index. -/
def Obligations.StepWithoutListedInputIsIdleAtFreeTime : Prop :=
  ∀ s : State, s.inputs = [] →
    step s = .next
      { blinkUpdate (Config.freeNow s.freeCount) { s with freeCount := s.freeCount + 1 } with
        frame := some (render (blinkUpdate (Config.freeNow s.freeCount) { s with freeCount := s.freeCount + 1 })) }

/-- Every tick updates the blink state by the time alone, whatever its byte: at or after the deadline one toggle and
the next deadline 300 ms from now (R270, BT-6). The base `now` is the spec's D10 (log 13), the list of inputs
the model's form of the ports (log 1). -/
def Obligations.EveryTickUpdatesBlinkByTimeAlone : Prop :=
  ∀ (s t : State) (byte : Option Byte) (now : Nat) (rest : List TickInput),
    s.inputs = .tick byte now :: rest → step s = .next t →
    (s.blinkDeadline ≤ now → t.blinkVisible = !s.blinkVisible ∧ t.blinkDeadline = now + 300) ∧
    (now < s.blinkDeadline → t.blinkVisible = s.blinkVisible ∧ t.blinkDeadline = s.blinkDeadline)

/-- A blink phase lasts at least 300 ms: after a toggle at `now` no update before `now + 300` changes anything, and the
first one from then on toggles back (R271, R272). Rests on the spec's D10 (log 13). -/
def Obligations.BlinkPhaseLasts300Milliseconds : Prop :=
  ∀ (s : State) (now later : Nat), s.blinkDeadline ≤ now →
    (later < now + 300 → blinkUpdate later (blinkUpdate now s) = blinkUpdate now s) ∧
    (now + 300 ≤ later → (blinkUpdate later (blinkUpdate now s)).blinkVisible = s.blinkVisible)

/-- The frame of a tick is that of the state at its end (R31, R290); the field that holds it is the model's (log 5), a tick
past the end of the input list its choice (log 2). -/
def Obligations.FrameIsRenderOfStateAtEndOfTick : Prop :=
  ∀ s t : State, nextInput s ≠ .rst → step s = .next t → t.frame = some (render t)

/-! Reset. -/

/-- The state after power-on, field by field (R45). That it is the hard-reset state is the spec's D7, that the code of a
blank is 32 its D16, that the ports are empty the model's choice (logs 1, 2, 5, 9, 10, 16). -/
def Obligations.ResetStateValues : Prop :=
  State.reset.gfx = false ∧ State.reset.esc = false ∧ GridBlank State.reset ∧ blankCell = ⟨32, ⟨0, 0, 0⟩⟩ ∧
  State.reset.curC = 0 ∧ State.reset.curR = 0 ∧ State.reset.curColor = Config.grayFg ∧
  BufferBlack State.reset ∧ State.reset.ptrX = 0 ∧ State.reset.ptrY = 0 ∧
  State.reset.blinkVisible = Config.blinkVisible0 ∧ State.reset.blinkDeadline = Config.blinkDeadline0 ∧
  State.reset.inputs = [] ∧ State.reset.frame = none ∧ State.reset.freeCount = 0

/-- The reset input gives the power-on state, consumes no byte and outputs no frame (R340). Rests on the spec's D7; that
the inputs still to come stay is the model's choice (log 4). -/
def Obligations.PowerOnResetGivesResetState : Prop :=
  ∀ (s : State) (rest : List TickInput), s.inputs = .rst :: rest →
    step s = .next { State.reset with inputs := rest, freeCount := s.freeCount }

/-- R310: no instruction, no step and no run stops, in any state. -/
def Obligations.NothingEverStops : Prop :=
  (∀ (i : Instr) (s : State), ∃ t, exec i s = .next t) ∧ (∀ s : State, ∃ t, step s = .next t) ∧
  ∀ (k : Nat) (s : State), RunsOn s k

/-! Invariants that every step keeps. -/

/-- "Invariant: cursor always within grid bounds after any operation." (R36) At the origin a backspace moves by the
spec's D5 and D6 (log 12). -/
def Obligations.StepKeepsCursorInGrid : Prop :=
  ∀ s t : State, CursorInGrid s → step s = .next t → CursorInGrid t

/-- Every pixel stays a quantized colour (R38, which the spec marks as derived). -/
def Obligations.StepKeepsPixelsQuantized : Prop :=
  ∀ s t : State, PixelsQuantized s → step s = .next t → PixelsQuantized t

/-- Colour 27 never comes into the pixel buffer (R112, which the spec marks as derived). -/
def Obligations.StepKeepsColour27OutOfTheBuffer : Prop :=
  ∀ s t : State, NoPixelOfColour27 s → step s = .next t → NoPixelOfColour27 t

/-- Every cell keeps a character that can be written, SPACE among them (R35). Rests on the spec's D16 for the code of
SPACE (log 10) and D22 (log 12). -/
def Obligations.StepKeepsCellsWritable : Prop :=
  ∀ s t : State, CellsWritable s → step s = .next t → CellsWritable t

/-- The current colour and every cell's colour stay one of the two foregrounds or a quantized colour (R37, R141, R149,
R223). -/
def Obligations.StepKeepsTextColoursKnown : Prop :=
  ∀ s t : State, TextColoursKnown s → step s = .next t → TextColoursKnown t

/-- The state after power-on meets the five invariants (R36, R38, R112, R35, R37). Rests on the spec's D7
(log 16) and D16 (log 10). -/
def Obligations.ResetStateMeetsInvariants : Prop :=
  CursorInGrid State.reset ∧ PixelsQuantized State.reset ∧ NoPixelOfColour27 State.reset ∧
  CellsWritable State.reset ∧ TextColoursKnown State.reset

/-! The frame. -/

/-- R291: in graphics mode every pixel of the buffer is painted at its native coordinate, black ones too, for any
glyphs. -/
def Obligations.GraphicsFrameShowsEveryPixel : Prop :=
  ∀ (g : GlyphSource) (s : State), s.gfx = true →
    ∀ x < 64, ∀ y < 64, frameAt (renderWith g s) x y = some (s.pixAt x y)

/-- In text mode a pixel of a cell's box shows the cursor's underscore if the cursor is there, visible and lit, else the
cell's glyph if lit, in the cell's colour, else nothing (R290, R292, R293). That only lit pixels paint is the spec's
D13 (log 14), that the underscore's code is 95 its D16 (log 10). -/
def Obligations.TextFrameShowsLitGlyphPixels : Prop :=
  ∀ (g : GlyphSource) (s : State), s.gfx = false →
    ∀ c < 10, ∀ r < 8, ∀ dx < g.cellW.val, ∀ dy < g.cellH.val,
      frameAt (renderWith g s) (c * g.cellW.val + dx) (r * g.cellH.val + dy) =
        if s.blinkVisible = true ∧ c = s.curC ∧ r = s.curR ∧ g.lit 95 dx dy = true then some s.curColor
        else if g.lit (s.cellAt c r).ch dx dy = true then some (s.cellAt c r).color
        else none

/-- In text mode nothing is painted right of `10*CELL_W` or below `8*CELL_H`, and the canvas shows `BG` there (R31,
R292, RD-6). Rests on the spec's D15 (logs 8, 14). -/
def Obligations.TextFrameLeavesMarginToBackground : Prop :=
  ∀ (g : GlyphSource) (s : State), s.gfx = false → CursorInGrid s →
    ∀ x < 64, ∀ y < 64, 10 * g.cellW.val ≤ x ∨ 8 * g.cellH.val ≤ y →
      frameAt (renderWith g s) x y = none ∧ displayed (renderWith g s) x y = Config.background

/-- What the frame depends on: in graphics mode on the pixels alone, in text mode on the grid, the cursor, the current
colour and the visibility alone; never on `esc` (R42, which the spec marks as derived, R290). -/
def Obligations.FrameDependsOnlyOnTheActiveScreen : Prop :=
  ∀ (g : GlyphSource) (s t : State), s.gfx = t.gfx →
    (s.gfx = true → s.pix = t.pix → renderWith g s = renderWith g t) ∧
    (s.gfx = false → s.cell = t.cell → s.curC = t.curC → s.curR = t.curR → s.curColor = t.curColor →
      s.blinkVisible = t.blinkVisible → renderWith g s = renderWith g t)
end

