-- ==== Sys2Proof/Laws/State.lean ====
section
/-! SUPPORT. One lemma for each field under each setter: what it sets, and that it leaves the rest alone. -/

namespace Sys2Proof.Machine

variable (s : State)

/-! `setGfx` -/
@[simp] theorem setGfx_gfx (v : Bool) : (s.setGfx v).gfx = v := rfl
@[simp] theorem setGfx_esc (v : Bool) : (s.setGfx v).esc = s.esc := rfl
@[simp] theorem setGfx_cell (v : Bool) : (s.setGfx v).cell = s.cell := rfl
@[simp] theorem setGfx_curC (v : Bool) : (s.setGfx v).curC = s.curC := rfl
@[simp] theorem setGfx_curR (v : Bool) : (s.setGfx v).curR = s.curR := rfl
@[simp] theorem setGfx_curColor (v : Bool) : (s.setGfx v).curColor = s.curColor := rfl
@[simp] theorem setGfx_pix (v : Bool) : (s.setGfx v).pix = s.pix := rfl
@[simp] theorem setGfx_ptrX (v : Bool) : (s.setGfx v).ptrX = s.ptrX := rfl
@[simp] theorem setGfx_ptrY (v : Bool) : (s.setGfx v).ptrY = s.ptrY := rfl
@[simp] theorem setGfx_blinkVisible (v : Bool) : (s.setGfx v).blinkVisible = s.blinkVisible := rfl
@[simp] theorem setGfx_blinkDeadline (v : Bool) : (s.setGfx v).blinkDeadline = s.blinkDeadline := rfl
@[simp] theorem setGfx_inputs (v : Bool) : (s.setGfx v).inputs = s.inputs := rfl
@[simp] theorem setGfx_frame (v : Bool) : (s.setGfx v).frame = s.frame := rfl
@[simp] theorem setGfx_freeCount (v : Bool) : (s.setGfx v).freeCount = s.freeCount := rfl

/-! `setEsc` -/
@[simp] theorem setEsc_gfx (v : Bool) : (s.setEsc v).gfx = s.gfx := rfl
@[simp] theorem setEsc_esc (v : Bool) : (s.setEsc v).esc = v := rfl
@[simp] theorem setEsc_cell (v : Bool) : (s.setEsc v).cell = s.cell := rfl
@[simp] theorem setEsc_curC (v : Bool) : (s.setEsc v).curC = s.curC := rfl
@[simp] theorem setEsc_curR (v : Bool) : (s.setEsc v).curR = s.curR := rfl
@[simp] theorem setEsc_curColor (v : Bool) : (s.setEsc v).curColor = s.curColor := rfl
@[simp] theorem setEsc_pix (v : Bool) : (s.setEsc v).pix = s.pix := rfl
@[simp] theorem setEsc_ptrX (v : Bool) : (s.setEsc v).ptrX = s.ptrX := rfl
@[simp] theorem setEsc_ptrY (v : Bool) : (s.setEsc v).ptrY = s.ptrY := rfl
@[simp] theorem setEsc_blinkVisible (v : Bool) : (s.setEsc v).blinkVisible = s.blinkVisible := rfl
@[simp] theorem setEsc_blinkDeadline (v : Bool) : (s.setEsc v).blinkDeadline = s.blinkDeadline := rfl
@[simp] theorem setEsc_inputs (v : Bool) : (s.setEsc v).inputs = s.inputs := rfl
@[simp] theorem setEsc_frame (v : Bool) : (s.setEsc v).frame = s.frame := rfl
@[simp] theorem setEsc_freeCount (v : Bool) : (s.setEsc v).freeCount = s.freeCount := rfl

/-! `setCell` -/
@[simp] theorem setCell_gfx (g : TextGrid) : (s.setCell g).gfx = s.gfx := rfl
@[simp] theorem setCell_esc (g : TextGrid) : (s.setCell g).esc = s.esc := rfl
@[simp] theorem setCell_cell (g : TextGrid) : (s.setCell g).cell = g := rfl
@[simp] theorem setCell_curC (g : TextGrid) : (s.setCell g).curC = s.curC := rfl
@[simp] theorem setCell_curR (g : TextGrid) : (s.setCell g).curR = s.curR := rfl
@[simp] theorem setCell_curColor (g : TextGrid) : (s.setCell g).curColor = s.curColor := rfl
@[simp] theorem setCell_pix (g : TextGrid) : (s.setCell g).pix = s.pix := rfl
@[simp] theorem setCell_ptrX (g : TextGrid) : (s.setCell g).ptrX = s.ptrX := rfl
@[simp] theorem setCell_ptrY (g : TextGrid) : (s.setCell g).ptrY = s.ptrY := rfl
@[simp] theorem setCell_blinkVisible (g : TextGrid) : (s.setCell g).blinkVisible = s.blinkVisible := rfl
@[simp] theorem setCell_blinkDeadline (g : TextGrid) : (s.setCell g).blinkDeadline = s.blinkDeadline := rfl
@[simp] theorem setCell_inputs (g : TextGrid) : (s.setCell g).inputs = s.inputs := rfl
@[simp] theorem setCell_frame (g : TextGrid) : (s.setCell g).frame = s.frame := rfl
@[simp] theorem setCell_freeCount (g : TextGrid) : (s.setCell g).freeCount = s.freeCount := rfl

/-! `setCurC` -/
@[simp] theorem setCurC_gfx (c : Nat) : (s.setCurC c).gfx = s.gfx := rfl
@[simp] theorem setCurC_esc (c : Nat) : (s.setCurC c).esc = s.esc := rfl
@[simp] theorem setCurC_cell (c : Nat) : (s.setCurC c).cell = s.cell := rfl
@[simp] theorem setCurC_curC (c : Nat) : (s.setCurC c).curC = c := rfl
@[simp] theorem setCurC_curR (c : Nat) : (s.setCurC c).curR = s.curR := rfl
@[simp] theorem setCurC_curColor (c : Nat) : (s.setCurC c).curColor = s.curColor := rfl
@[simp] theorem setCurC_pix (c : Nat) : (s.setCurC c).pix = s.pix := rfl
@[simp] theorem setCurC_ptrX (c : Nat) : (s.setCurC c).ptrX = s.ptrX := rfl
@[simp] theorem setCurC_ptrY (c : Nat) : (s.setCurC c).ptrY = s.ptrY := rfl
@[simp] theorem setCurC_blinkVisible (c : Nat) : (s.setCurC c).blinkVisible = s.blinkVisible := rfl
@[simp] theorem setCurC_blinkDeadline (c : Nat) : (s.setCurC c).blinkDeadline = s.blinkDeadline := rfl
@[simp] theorem setCurC_inputs (c : Nat) : (s.setCurC c).inputs = s.inputs := rfl
@[simp] theorem setCurC_frame (c : Nat) : (s.setCurC c).frame = s.frame := rfl
@[simp] theorem setCurC_freeCount (c : Nat) : (s.setCurC c).freeCount = s.freeCount := rfl

/-! `setCurR` -/
@[simp] theorem setCurR_gfx (r : Nat) : (s.setCurR r).gfx = s.gfx := rfl
@[simp] theorem setCurR_esc (r : Nat) : (s.setCurR r).esc = s.esc := rfl
@[simp] theorem setCurR_cell (r : Nat) : (s.setCurR r).cell = s.cell := rfl
@[simp] theorem setCurR_curC (r : Nat) : (s.setCurR r).curC = s.curC := rfl
@[simp] theorem setCurR_curR (r : Nat) : (s.setCurR r).curR = r := rfl
@[simp] theorem setCurR_curColor (r : Nat) : (s.setCurR r).curColor = s.curColor := rfl
@[simp] theorem setCurR_pix (r : Nat) : (s.setCurR r).pix = s.pix := rfl
@[simp] theorem setCurR_ptrX (r : Nat) : (s.setCurR r).ptrX = s.ptrX := rfl
@[simp] theorem setCurR_ptrY (r : Nat) : (s.setCurR r).ptrY = s.ptrY := rfl
@[simp] theorem setCurR_blinkVisible (r : Nat) : (s.setCurR r).blinkVisible = s.blinkVisible := rfl
@[simp] theorem setCurR_blinkDeadline (r : Nat) : (s.setCurR r).blinkDeadline = s.blinkDeadline := rfl
@[simp] theorem setCurR_inputs (r : Nat) : (s.setCurR r).inputs = s.inputs := rfl
@[simp] theorem setCurR_frame (r : Nat) : (s.setCurR r).frame = s.frame := rfl
@[simp] theorem setCurR_freeCount (r : Nat) : (s.setCurR r).freeCount = s.freeCount := rfl

/-! `setCurColor` -/
@[simp] theorem setCurColor_gfx (k : RGB) : (s.setCurColor k).gfx = s.gfx := rfl
@[simp] theorem setCurColor_esc (k : RGB) : (s.setCurColor k).esc = s.esc := rfl
@[simp] theorem setCurColor_cell (k : RGB) : (s.setCurColor k).cell = s.cell := rfl
@[simp] theorem setCurColor_curC (k : RGB) : (s.setCurColor k).curC = s.curC := rfl
@[simp] theorem setCurColor_curR (k : RGB) : (s.setCurColor k).curR = s.curR := rfl
@[simp] theorem setCurColor_curColor (k : RGB) : (s.setCurColor k).curColor = k := rfl
@[simp] theorem setCurColor_pix (k : RGB) : (s.setCurColor k).pix = s.pix := rfl
@[simp] theorem setCurColor_ptrX (k : RGB) : (s.setCurColor k).ptrX = s.ptrX := rfl
@[simp] theorem setCurColor_ptrY (k : RGB) : (s.setCurColor k).ptrY = s.ptrY := rfl
@[simp] theorem setCurColor_blinkVisible (k : RGB) : (s.setCurColor k).blinkVisible = s.blinkVisible := rfl
@[simp] theorem setCurColor_blinkDeadline (k : RGB) : (s.setCurColor k).blinkDeadline = s.blinkDeadline := rfl
@[simp] theorem setCurColor_inputs (k : RGB) : (s.setCurColor k).inputs = s.inputs := rfl
@[simp] theorem setCurColor_frame (k : RGB) : (s.setCurColor k).frame = s.frame := rfl
@[simp] theorem setCurColor_freeCount (k : RGB) : (s.setCurColor k).freeCount = s.freeCount := rfl

/-! `setPix` -/
@[simp] theorem setPix_gfx (g : PixelBuffer) : (s.setPix g).gfx = s.gfx := rfl
@[simp] theorem setPix_esc (g : PixelBuffer) : (s.setPix g).esc = s.esc := rfl
@[simp] theorem setPix_cell (g : PixelBuffer) : (s.setPix g).cell = s.cell := rfl
@[simp] theorem setPix_curC (g : PixelBuffer) : (s.setPix g).curC = s.curC := rfl
@[simp] theorem setPix_curR (g : PixelBuffer) : (s.setPix g).curR = s.curR := rfl
@[simp] theorem setPix_curColor (g : PixelBuffer) : (s.setPix g).curColor = s.curColor := rfl
@[simp] theorem setPix_pix (g : PixelBuffer) : (s.setPix g).pix = g := rfl
@[simp] theorem setPix_ptrX (g : PixelBuffer) : (s.setPix g).ptrX = s.ptrX := rfl
@[simp] theorem setPix_ptrY (g : PixelBuffer) : (s.setPix g).ptrY = s.ptrY := rfl
@[simp] theorem setPix_blinkVisible (g : PixelBuffer) : (s.setPix g).blinkVisible = s.blinkVisible := rfl
@[simp] theorem setPix_blinkDeadline (g : PixelBuffer) : (s.setPix g).blinkDeadline = s.blinkDeadline := rfl
@[simp] theorem setPix_inputs (g : PixelBuffer) : (s.setPix g).inputs = s.inputs := rfl
@[simp] theorem setPix_frame (g : PixelBuffer) : (s.setPix g).frame = s.frame := rfl
@[simp] theorem setPix_freeCount (g : PixelBuffer) : (s.setPix g).freeCount = s.freeCount := rfl

/-! `setPtrX` -/
@[simp] theorem setPtrX_gfx (x : Coord6) : (s.setPtrX x).gfx = s.gfx := rfl
@[simp] theorem setPtrX_esc (x : Coord6) : (s.setPtrX x).esc = s.esc := rfl
@[simp] theorem setPtrX_cell (x : Coord6) : (s.setPtrX x).cell = s.cell := rfl
@[simp] theorem setPtrX_curC (x : Coord6) : (s.setPtrX x).curC = s.curC := rfl
@[simp] theorem setPtrX_curR (x : Coord6) : (s.setPtrX x).curR = s.curR := rfl
@[simp] theorem setPtrX_curColor (x : Coord6) : (s.setPtrX x).curColor = s.curColor := rfl
@[simp] theorem setPtrX_pix (x : Coord6) : (s.setPtrX x).pix = s.pix := rfl
@[simp] theorem setPtrX_ptrX (x : Coord6) : (s.setPtrX x).ptrX = x := rfl
@[simp] theorem setPtrX_ptrY (x : Coord6) : (s.setPtrX x).ptrY = s.ptrY := rfl
@[simp] theorem setPtrX_blinkVisible (x : Coord6) : (s.setPtrX x).blinkVisible = s.blinkVisible := rfl
@[simp] theorem setPtrX_blinkDeadline (x : Coord6) : (s.setPtrX x).blinkDeadline = s.blinkDeadline := rfl
@[simp] theorem setPtrX_inputs (x : Coord6) : (s.setPtrX x).inputs = s.inputs := rfl
@[simp] theorem setPtrX_frame (x : Coord6) : (s.setPtrX x).frame = s.frame := rfl
@[simp] theorem setPtrX_freeCount (x : Coord6) : (s.setPtrX x).freeCount = s.freeCount := rfl

/-! `setPtrY` -/
@[simp] theorem setPtrY_gfx (y : Coord6) : (s.setPtrY y).gfx = s.gfx := rfl
@[simp] theorem setPtrY_esc (y : Coord6) : (s.setPtrY y).esc = s.esc := rfl
@[simp] theorem setPtrY_cell (y : Coord6) : (s.setPtrY y).cell = s.cell := rfl
@[simp] theorem setPtrY_curC (y : Coord6) : (s.setPtrY y).curC = s.curC := rfl
@[simp] theorem setPtrY_curR (y : Coord6) : (s.setPtrY y).curR = s.curR := rfl
@[simp] theorem setPtrY_curColor (y : Coord6) : (s.setPtrY y).curColor = s.curColor := rfl
@[simp] theorem setPtrY_pix (y : Coord6) : (s.setPtrY y).pix = s.pix := rfl
@[simp] theorem setPtrY_ptrX (y : Coord6) : (s.setPtrY y).ptrX = s.ptrX := rfl
@[simp] theorem setPtrY_ptrY (y : Coord6) : (s.setPtrY y).ptrY = y := rfl
@[simp] theorem setPtrY_blinkVisible (y : Coord6) : (s.setPtrY y).blinkVisible = s.blinkVisible := rfl
@[simp] theorem setPtrY_blinkDeadline (y : Coord6) : (s.setPtrY y).blinkDeadline = s.blinkDeadline := rfl
@[simp] theorem setPtrY_inputs (y : Coord6) : (s.setPtrY y).inputs = s.inputs := rfl
@[simp] theorem setPtrY_frame (y : Coord6) : (s.setPtrY y).frame = s.frame := rfl
@[simp] theorem setPtrY_freeCount (y : Coord6) : (s.setPtrY y).freeCount = s.freeCount := rfl

/-! `setBlink` -/
@[simp] theorem setBlink_gfx (v : Bool) (t : Nat) : (s.setBlink v t).gfx = s.gfx := rfl
@[simp] theorem setBlink_esc (v : Bool) (t : Nat) : (s.setBlink v t).esc = s.esc := rfl
@[simp] theorem setBlink_cell (v : Bool) (t : Nat) : (s.setBlink v t).cell = s.cell := rfl
@[simp] theorem setBlink_curC (v : Bool) (t : Nat) : (s.setBlink v t).curC = s.curC := rfl
@[simp] theorem setBlink_curR (v : Bool) (t : Nat) : (s.setBlink v t).curR = s.curR := rfl
@[simp] theorem setBlink_curColor (v : Bool) (t : Nat) : (s.setBlink v t).curColor = s.curColor := rfl
@[simp] theorem setBlink_pix (v : Bool) (t : Nat) : (s.setBlink v t).pix = s.pix := rfl
@[simp] theorem setBlink_ptrX (v : Bool) (t : Nat) : (s.setBlink v t).ptrX = s.ptrX := rfl
@[simp] theorem setBlink_ptrY (v : Bool) (t : Nat) : (s.setBlink v t).ptrY = s.ptrY := rfl
@[simp] theorem setBlink_blinkVisible (v : Bool) (t : Nat) : (s.setBlink v t).blinkVisible = v := rfl
@[simp] theorem setBlink_blinkDeadline (v : Bool) (t : Nat) : (s.setBlink v t).blinkDeadline = t := rfl
@[simp] theorem setBlink_inputs (v : Bool) (t : Nat) : (s.setBlink v t).inputs = s.inputs := rfl
@[simp] theorem setBlink_frame (v : Bool) (t : Nat) : (s.setBlink v t).frame = s.frame := rfl
@[simp] theorem setBlink_freeCount (v : Bool) (t : Nat) : (s.setBlink v t).freeCount = s.freeCount := rfl

/-! `setInputs` -/
@[simp] theorem setInputs_gfx (l : List TickInput) : (s.setInputs l).gfx = s.gfx := rfl
@[simp] theorem setInputs_esc (l : List TickInput) : (s.setInputs l).esc = s.esc := rfl
@[simp] theorem setInputs_cell (l : List TickInput) : (s.setInputs l).cell = s.cell := rfl
@[simp] theorem setInputs_curC (l : List TickInput) : (s.setInputs l).curC = s.curC := rfl
@[simp] theorem setInputs_curR (l : List TickInput) : (s.setInputs l).curR = s.curR := rfl
@[simp] theorem setInputs_curColor (l : List TickInput) : (s.setInputs l).curColor = s.curColor := rfl
@[simp] theorem setInputs_pix (l : List TickInput) : (s.setInputs l).pix = s.pix := rfl
@[simp] theorem setInputs_ptrX (l : List TickInput) : (s.setInputs l).ptrX = s.ptrX := rfl
@[simp] theorem setInputs_ptrY (l : List TickInput) : (s.setInputs l).ptrY = s.ptrY := rfl
@[simp] theorem setInputs_blinkVisible (l : List TickInput) : (s.setInputs l).blinkVisible = s.blinkVisible := rfl
@[simp] theorem setInputs_blinkDeadline (l : List TickInput) : (s.setInputs l).blinkDeadline = s.blinkDeadline := rfl
@[simp] theorem setInputs_inputs (l : List TickInput) : (s.setInputs l).inputs = l := rfl
@[simp] theorem setInputs_frame (l : List TickInput) : (s.setInputs l).frame = s.frame := rfl
@[simp] theorem setInputs_freeCount (l : List TickInput) : (s.setInputs l).freeCount = s.freeCount := rfl

/-! `setFrame` -/
@[simp] theorem setFrame_gfx (f : Option Frame) : (s.setFrame f).gfx = s.gfx := rfl
@[simp] theorem setFrame_esc (f : Option Frame) : (s.setFrame f).esc = s.esc := rfl
@[simp] theorem setFrame_cell (f : Option Frame) : (s.setFrame f).cell = s.cell := rfl
@[simp] theorem setFrame_curC (f : Option Frame) : (s.setFrame f).curC = s.curC := rfl
@[simp] theorem setFrame_curR (f : Option Frame) : (s.setFrame f).curR = s.curR := rfl
@[simp] theorem setFrame_curColor (f : Option Frame) : (s.setFrame f).curColor = s.curColor := rfl
@[simp] theorem setFrame_pix (f : Option Frame) : (s.setFrame f).pix = s.pix := rfl
@[simp] theorem setFrame_ptrX (f : Option Frame) : (s.setFrame f).ptrX = s.ptrX := rfl
@[simp] theorem setFrame_ptrY (f : Option Frame) : (s.setFrame f).ptrY = s.ptrY := rfl
@[simp] theorem setFrame_blinkVisible (f : Option Frame) : (s.setFrame f).blinkVisible = s.blinkVisible := rfl
@[simp] theorem setFrame_blinkDeadline (f : Option Frame) : (s.setFrame f).blinkDeadline = s.blinkDeadline := rfl
@[simp] theorem setFrame_inputs (f : Option Frame) : (s.setFrame f).inputs = s.inputs := rfl
@[simp] theorem setFrame_frame (f : Option Frame) : (s.setFrame f).frame = f := rfl
@[simp] theorem setFrame_freeCount (f : Option Frame) : (s.setFrame f).freeCount = s.freeCount := rfl

/-! `setFreeCount` -/
@[simp] theorem setFreeCount_gfx (n : Nat) : (s.setFreeCount n).gfx = s.gfx := rfl
@[simp] theorem setFreeCount_esc (n : Nat) : (s.setFreeCount n).esc = s.esc := rfl
@[simp] theorem setFreeCount_cell (n : Nat) : (s.setFreeCount n).cell = s.cell := rfl
@[simp] theorem setFreeCount_curC (n : Nat) : (s.setFreeCount n).curC = s.curC := rfl
@[simp] theorem setFreeCount_curR (n : Nat) : (s.setFreeCount n).curR = s.curR := rfl
@[simp] theorem setFreeCount_curColor (n : Nat) : (s.setFreeCount n).curColor = s.curColor := rfl
@[simp] theorem setFreeCount_pix (n : Nat) : (s.setFreeCount n).pix = s.pix := rfl
@[simp] theorem setFreeCount_ptrX (n : Nat) : (s.setFreeCount n).ptrX = s.ptrX := rfl
@[simp] theorem setFreeCount_ptrY (n : Nat) : (s.setFreeCount n).ptrY = s.ptrY := rfl
@[simp] theorem setFreeCount_blinkVisible (n : Nat) : (s.setFreeCount n).blinkVisible = s.blinkVisible := rfl
@[simp] theorem setFreeCount_blinkDeadline (n : Nat) : (s.setFreeCount n).blinkDeadline = s.blinkDeadline := rfl
@[simp] theorem setFreeCount_inputs (n : Nat) : (s.setFreeCount n).inputs = s.inputs := rfl
@[simp] theorem setFreeCount_frame (n : Nat) : (s.setFreeCount n).frame = s.frame := rfl
@[simp] theorem setFreeCount_freeCount (n : Nat) : (s.setFreeCount n).freeCount = n := rfl

end Sys2Proof.Machine
end

