-- ==== Sys2Proof/Laws/Grid.lean ====
section
/-! SUPPORT. The laws of the grids: read after write, and what each way of making a grid reads as. -/

namespace Sys2Proof.Machine

variable {α : Type} {w h : Nat}

/-- Reading inside the grid is indexing. -/
theorem gridGet_of_lt (d : α) (g : Grid α w h) {x y : Nat} (hx : x < w) (hy : y < h) : gridGet d g x y = g[y][x] := by
  simp [gridGet, hx, hy]

/-- Read after write: the written element, and every other one as before. -/
theorem gridGet_gridSet (d a : α) (g : Grid α w h) (x y x' y' : Nat) :
    gridGet d (gridSet g x y a) x' y' =
      if x' = x ∧ y' = y ∧ x < w ∧ y < h then a else gridGet d g x' y' := by
  by_cases hy : y < h
  · by_cases hyy : y = y'
    · subst hyy
      by_cases hx : x < w <;> by_cases hx' : x' < w <;> by_cases hxx : x = x' <;>
        simp [gridGet, gridSet, hy, hx, hx', hxx] <;> grind
    · have hne : ¬ y' = y := fun e => hyy e.symm
      by_cases hy' : y' < h <;> simp [gridGet, gridSet, hy, hy', hyy, hne]
  · simp [gridSet, hy]

/-- A grid filled with one element reads as that element inside. -/
theorem gridGet_fillGrid (d a : α) {x y : Nat} (hx : x < w) (hy : y < h) : gridGet d (fillGrid w h a) x y = a := by
  simp [gridGet, fillGrid, hx, hy]

/-- A grid filled with the default reads as the default everywhere. -/
@[simp] theorem gridGet_fillGrid_default (d : α) (x y : Nat) : gridGet d (fillGrid w h d) x y = d := by
  by_cases hy : y < h <;> by_cases hx : x < w <;> simp [gridGet, fillGrid, hx, hy]

/-- A tabulated grid reads as its function inside. -/
theorem gridGet_tabulate (d : α) (f : Fin w → Fin h → α) {x y : Nat} (hx : x < w) (hy : y < h) :
    gridGet d (tabulate w h f) x y = f ⟨x, hx⟩ ⟨y, hy⟩ := by
  simp [gridGet, tabulate, hx, hy]

/-- Two grids that read the same inside are the same. -/
theorem grid_ext (d : α) {g g' : Grid α w h} (e : ∀ x < w, ∀ y < h, gridGet d g x y = gridGet d g' x y) : g = g' := by
  apply Vector.ext
  intro y hy
  apply Vector.ext
  intro x hx
  simpa [gridGet_of_lt d _ hx hy] using e x hx y hy

/-- Writing an element and then the same place again keeps the second only. -/
theorem gridSet_gridSet (g : Grid α w h) (x y : Nat) (a b : α) :
    gridSet (gridSet g x y a) x y b = gridSet g x y b := by
  apply grid_ext a
  intro x' _ y' _
  simp only [gridGet_gridSet]
  split <;> rfl

end Sys2Proof.Machine
end

