-- ==== Sys2Proof/Laws/Graphics.lean ====
section
/-! SUPPORT. What the GraphicsScreen operations can do, once for each. -/

namespace Sys2Proof.Machine

/-- `PixWrite` stores one pixel and leaves every other pixel as it was. -/
theorem pixAt_pixWrite (x y : Coord6) (k : RGB) (s : State) (x' y' : Nat) :
    (pixWrite x y k s).pixAt x' y' = if x' = x.toNat ∧ y' = y.toNat then k else s.pixAt x' y' := by
  have hx : x.toNat < 64 := x.isLt
  have hy : y.toNat < 64 := y.isLt
  simp [pixWrite, State.pixAt, gridGet_gridSet, hx, hy]

/-- `advancePointer` changes the pointer only. -/
theorem advancePointer_frame (s : State) :
    advancePointer s = { s with ptrX := (advancePointer s).ptrX, ptrY := (advancePointer s).ptrY } := by
  simp only [advancePointer]
  split <;> rfl

/-- The pixels are those of `PixWrite` at the pointer (R172). -/
theorem writeAndAdvance_pix (k : RGB) (s : State) :
    (writeAndAdvance k s).pix = gridSet s.pix s.ptrX.toNat s.ptrY.toNat k := by
  rw [writeAndAdvance, advancePointer_frame]
  rfl

/-- The pixels and the pointer are all that `writeAndAdvance` changes. -/
theorem writeAndAdvance_frame (k : RGB) (s : State) :
    writeAndAdvance k s = { s with
      pix := (writeAndAdvance k s).pix, ptrX := (writeAndAdvance k s).ptrX, ptrY := (writeAndAdvance k s).ptrY } := by
  rw [writeAndAdvance, advancePointer_frame]
  rfl

/-- Short of column 63 the pointer goes one column right (R172). -/
theorem advancePointer_of_ne {s : State} (h : s.ptrX ≠ 63) : advancePointer s = s.setPtrX (s.ptrX + 1) :=
  if_neg h

/-- At column 63 the pointer goes to column 0 of the next row, and past row 63 to row 0 (R172). -/
theorem advancePointer_of_eq {s : State} (h : s.ptrX = 63) :
    advancePointer s = (s.setPtrX 0).setPtrY (if s.ptrY = 63 then 0 else s.ptrY + 1) :=
  if_pos h

/-- Below 63 a coordinate goes up by one without wrapping. -/
theorem coord_succ {x : Coord6} (h : x ≠ 63) : (x + 1).toNat = x.toNat + 1 := by
  have : x.toNat ≠ 63 := fun e => h (BitVec.eq_of_toNat_eq (by simpa using e))
  have : x.toNat < 64 := x.isLt
  rw [BitVec.toNat_add]
  exact Nat.mod_eq_of_lt (by simpa using by omega)

/-- The place of the pointer in row-major order goes up by one, modulo the size of the buffer (R172). -/
theorem writeAndAdvance_place (k : RGB) (s : State) :
    (writeAndAdvance k s).ptrY.toNat * 64 + (writeAndAdvance k s).ptrX.toNat =
      (s.ptrY.toNat * 64 + s.ptrX.toNat + 1) % 4096 := by
  have hx : s.ptrX.toNat < 64 := s.ptrX.isLt
  have hy : s.ptrY.toNat < 64 := s.ptrY.isLt
  by_cases h : s.ptrX = 63
  · rw [writeAndAdvance, advancePointer_of_eq (by simpa [pixWrite] using h)]
    by_cases h' : s.ptrY = 63
    · simp [pixWrite, h, h']
    · simp only [pixWrite, setPtrY_ptrY, setPtrY_ptrX, setPtrX_ptrX, setPix_ptrY, h', if_false, coord_succ h', h]
      have e : (63 : Coord6).toNat = 63 := rfl
      have z : (0 : Coord6).toNat = 0 := rfl
      have : s.ptrY.toNat ≠ 63 := fun e => h' (BitVec.eq_of_toNat_eq (by simpa using e))
      rw [e, z]
      omega
  · have : s.ptrX.toNat ≠ 63 := fun e => h (BitVec.eq_of_toNat_eq (by simpa using e))
    rw [writeAndAdvance, advancePointer_of_ne (by simpa [pixWrite] using h)]
    simp only [pixWrite, setPtrX_ptrY, setPtrX_ptrX, setPix_ptrY, setPix_ptrX, coord_succ h]
    omega

end Sys2Proof.Machine
end

