-- ==== Sys2Proof/Laws/PerInstr.lean ====
section
/-! SUPPORT. A family of laws with one lemma for each instruction: the byte of a well-formed instruction lies in the
bytes column of R108. -/

namespace Sys2Proof.Laws.ByteRange

/-- The byte of a well-formed instruction is one that R108 lists for its mnemonic. -/
def Statement (i : Instr) : Prop := i.wf = true → i.mnemonic.byteRange (encode i) = true

theorem hrst : Statement .hrst := fun _ => rfl
theorem nul : Statement .nul := fun _ => rfl
theorem eTxtGray : Statement .eTxtGray := fun _ => rfl
theorem eTxtGreen : Statement .eTxtGreen := fun _ => rfl
theorem eColor (alt : Bool) (p : BitVec 6) : Statement (.eColor alt p) := by
  revert alt p; unfold Statement; decide
theorem eGfx (n : BitVec 6) : Statement (.eGfx n) := by
  revert n; unfold Statement; decide
theorem eNop (n : Byte) : Statement (.eNop n) := fun h => h
theorem esc : Statement .esc := fun _ => rfl
theorem tCr : Statement .tCr := fun _ => rfl
theorem tDel : Statement .tDel := fun _ => rfl
theorem tIgn (n : Byte) : Statement (.tIgn n) := fun h => h
theorem tChar (c : Byte) : Statement (.tChar c) := fun h => h
theorem gExit : Statement .gExit := fun _ => rfl
theorem gBlack (n : BitVec 6) : Statement (.gBlack n) := by
  revert n; unfold Statement; decide
theorem gSetY (y : Coord6) : Statement (.gSetY y) := by
  revert y; unfold Statement; decide
theorem gSetX (x : Coord6) : Statement (.gSetX x) := by
  revert x; unfold Statement; decide
theorem gPixel (p : BitVec 6) : Statement (.gPixel p) := by
  revert p; unfold Statement; decide

end Sys2Proof.Laws.ByteRange
end

