-- ==== Sys2Proof/Laws/Render.lean ====
section
/-! SUPPORT. What painting a glyph does to each canvas pixel, and what the whole text screen paints. -/

namespace Sys2Proof.Machine

/-- A fold that paints, for each index below `n`, at most the pixels `hit i`, all in one colour. -/
theorem frameAt_foldl_paint (k : RGB) (paint : Frame → Nat → Frame) (hit : Nat → Nat → Nat → Prop)
    (step : ∀ f i x y, x < 64 → y < 64 →
      (hit i x y → frameAt (paint f i) x y = some k) ∧ (¬ hit i x y → frameAt (paint f i) x y = frameAt f x y))
    (n : Nat) (f : Frame) (x y : Nat) (hx : x < 64) (hy : y < 64) :
    ((∃ i < n, hit i x y) → frameAt ((List.range n).foldl paint f) x y = some k) ∧
    ((¬ ∃ i < n, hit i x y) → frameAt ((List.range n).foldl paint f) x y = frameAt f x y) := by
  induction n with
  | zero => simp
  | succ n ih =>
    rw [List.range_succ, List.foldl_append]
    simp only [List.foldl_cons, List.foldl_nil]
    by_cases hn : hit n x y
    · refine ⟨fun _ => (step _ n x y hx hy).1 hn, fun h => absurd ⟨n, by omega, hn⟩ h⟩
    · rw [(step _ n x y hx hy).2 hn]
      refine ⟨fun ⟨i, hi, h⟩ => ih.1 ⟨i, ?_, h⟩, fun h => ih.2 fun ⟨i, hi, h'⟩ => h ⟨i, by omega, h'⟩⟩
      rcases Nat.lt_or_eq_of_le (Nat.le_of_lt_succ hi) with h' | h'
      · exact h'
      · exact absurd (h' ▸ h) hn

/-- Whether canvas pixel `(x, y)` is a lit pixel of the glyph of `ch` in cell `(c, r)` (R292). -/
abbrev LitIn (g : GlyphSource) (ch : Byte) (c r x y : Nat) : Prop :=
  ∃ dy < g.cellH.val, ∃ dx < g.cellW.val,
    g.lit ch dx dy = true ∧ x = c * g.cellW.val + dx ∧ y = r * g.cellH.val + dy

/-- Painting a glyph paints its lit pixels and no others (R292, R293). -/
theorem frameAt_paintGlyph (g : GlyphSource) (ch : Byte) (k : RGB) (c r : Nat) (f : Frame) (x y : Nat)
    (hx : x < 64) (hy : y < 64) :
    (LitIn g ch c r x y → frameAt (paintGlyph g ch k c r f) x y = some k) ∧
    (¬ LitIn g ch c r x y → frameAt (paintGlyph g ch k c r f) x y = frameAt f x y) := by
  refine frameAt_foldl_paint k _
    (fun dy x y => ∃ dx < g.cellW.val,
      g.lit ch dx dy = true ∧ x = c * g.cellW.val + dx ∧ y = r * g.cellH.val + dy) ?_ _ f x y hx hy
  intro f dy x y hx hy
  refine frameAt_foldl_paint k _
    (fun dx x y => g.lit ch dx dy = true ∧ x = c * g.cellW.val + dx ∧ y = r * g.cellH.val + dy) ?_ _ f x y hx hy
  intro f dx x y hx hy
  by_cases hl : g.lit ch dx dy = true
  · simp only [hl, if_true, frameAt, gridGet_gridSet]
    grind
  · simp [hl]

/-- In its own box a cell's pixel is lit exactly where its glyph is. -/
theorem litIn_box {g : GlyphSource} {ch : Byte} {c r dx dy : Nat} (hdx : dx < g.cellW.val) (hdy : dy < g.cellH.val) :
    LitIn g ch c r (c * g.cellW.val + dx) (r * g.cellH.val + dy) ↔ g.lit ch dx dy = true := by
  constructor
  · rintro ⟨dy', _, dx', _, h, hx, hy⟩
    obtain rfl : dx' = dx := by omega
    obtain rfl : dy' = dy := by omega
    exact h
  · exact fun h => ⟨dy, hdy, dx, hdx, h, rfl, rfl⟩

/-- The box of a coordinate is its quotient by the cell size. -/
theorem box_quotient (a : Nat) {w d : Nat} (hd : d < w) : (a * w + d) / w = a := by
  rw [Nat.mul_comm, Nat.mul_add_div (Nat.zero_lt_of_lt hd), Nat.div_eq_of_lt hd, Nat.add_zero]

/-- The boxes of two cells do not overlap (R292: "cells do not overlap"). -/
theorem litIn_box_unique {g : GlyphSource} {ch : Byte} {c r c' r' dx dy : Nat} (hdx : dx < g.cellW.val)
    (hdy : dy < g.cellH.val) (h : LitIn g ch c' r' (c * g.cellW.val + dx) (r * g.cellH.val + dy)) :
    c' = c ∧ r' = r := by
  obtain ⟨dy', hdy', dx', hdx', _, hx, hy⟩ := h
  exact ⟨by rw [← box_quotient c' hdx', ← hx, box_quotient c hdx],
    by rw [← box_quotient r' hdy', ← hy, box_quotient r hdy]⟩

end Sys2Proof.Machine
end

