-- ==== Sys2Proof/Laws/Text.lean ====
section
/-! SUPPORT. What the TextScreen operations can do, once for each. -/

namespace Sys2Proof.Machine

/-- `CellWrite` stores the whole cell and leaves every other cell as it was. -/
theorem cellAt_cellWrite (c r : Nat) (ch : Byte) (k : RGB) (s : State) (c' r' : Nat) :
    (cellWrite c r ch k s).cellAt c' r' =
      if c' = c ∧ r' = r ∧ c < 10 ∧ r < 8 then ⟨ch, k⟩ else s.cellAt c' r' := by
  simp [cellWrite, State.cellAt, gridGet_gridSet]

/-- After a scroll the rows have moved up by one and row 7 is blank (R142). -/
theorem gridGet_scrolledGrid (g : TextGrid) (c r : Nat) (hr : r < 8) :
    gridGet blankCell (scrolledGrid g) c r = if r < 7 then gridGet blankCell g c (r + 1) else blankCell := by
  have : r = 0 ∨ r = 1 ∨ r = 2 ∨ r = 3 ∨ r = 4 ∨ r = 5 ∨ r = 6 ∨ r = 7 := by omega
  by_cases hc : c < 10 <;> rcases this with rfl | rfl | rfl | rfl | rfl | rfl | rfl | rfl <;>
    simp [gridGet, scrolledGrid, hc]

/-- With the row inside the grid `scrollIfNeeded` does nothing (R142). -/
theorem scrollIfNeeded_of_le {s : State} (h : s.curR ≤ 7) : scrollIfNeeded s = s := by
  have : ¬ s.curR > 7 := by omega
  simp [scrollIfNeeded, this]

/-- With the row past the grid `scrollIfNeeded` scrolls once and takes the row back (R142). -/
theorem scrollIfNeeded_of_gt {s : State} (h : 7 < s.curR) :
    scrollIfNeeded s = (s.setCell (scrolledGrid s.cell)).setCurR (s.curR - 1) := by
  simp [scrollIfNeeded, h]

/-- The cells and the row are all that `scrollIfNeeded` changes. -/
theorem scrollIfNeeded_frame (s : State) :
    scrollIfNeeded s = { s with cell := (scrollIfNeeded s).cell, curR := (scrollIfNeeded s).curR } := by
  by_cases h : s.curR > 7
  · simp only [scrollIfNeeded, h, if_true]
    rfl
  · simp only [scrollIfNeeded, h, if_false]

/-- The cursor is all that `advanceCursor` changes. -/
theorem advanceCursor_frame (s : State) :
    advanceCursor s = { s with curC := (advanceCursor s).curC, curR := (advanceCursor s).curR } := by
  by_cases h : s.curC + 1 > 9
  · simp only [advanceCursor, h, if_true]
    rfl
  · simp only [advanceCursor, h, if_false]
    rfl

/-- The cells and the cursor are all that `putAdvance` changes. -/
theorem putAdvance_frame (ch : Byte) (k : RGB) (s : State) :
    putAdvance ch k s = { s with
      cell := (putAdvance ch k s).cell, curC := (putAdvance ch k s).curC, curR := (putAdvance ch k s).curR } := by
  rw [putAdvance, scrollIfNeeded_frame, advanceCursor_frame]
  rfl

/-- Everything `putAdvance` can do from a cursor inside the grid (R141). -/
theorem putAdvance_cases (ch : Byte) (k : RGB) {s : State} (hc : s.curC ≤ 9) (hr : s.curR ≤ 7) :
    (s.curC < 9 ∧ putAdvance ch k s = (cellWrite s.curC s.curR ch k s).setCurC (s.curC + 1)) ∨
    (s.curC = 9 ∧ s.curR < 7 ∧
      putAdvance ch k s = ((cellWrite s.curC s.curR ch k s).setCurC 0).setCurR (s.curR + 1)) ∨
    (s.curC = 9 ∧ s.curR = 7 ∧
      putAdvance ch k s =
        (((cellWrite 9 7 ch k s).setCurC 0).setCell (scrolledGrid (cellWrite 9 7 ch k s).cell)).setCurR 7) := by
  rcases Nat.lt_or_ge s.curC 9 with h9 | h9
  · refine .inl ⟨h9, ?_⟩
    have : ¬ s.curC + 1 > 9 := by omega
    simp only [putAdvance, advanceCursor, cellWrite, setCell_curC, setCell_curR, this, if_false]
    exact scrollIfNeeded_of_le (by simpa using hr)
  · have e9 : s.curC = 9 := by omega
    rcases Nat.lt_or_ge s.curR 7 with h7 | h7
    · refine .inr (.inl ⟨e9, h7, ?_⟩)
      simp only [putAdvance, advanceCursor, cellWrite, setCell_curC, setCell_curR, e9]
      exact scrollIfNeeded_of_le (by simpa using h7)
    · have e7 : s.curR = 7 := by omega
      refine .inr (.inr ⟨e9, e7, ?_⟩)
      simp only [putAdvance, advanceCursor, cellWrite, setCell_curC, setCell_curR, e9, e7]
      rw [scrollIfNeeded_of_gt (by simp)]
      rfl

/-- `moveLeft` changes the cursor only. -/
theorem moveLeft_frame (s : State) :
    moveLeft s = { s with curC := (moveLeft s).curC, curR := (moveLeft s).curR } := by
  simp only [moveLeft, moveUp]
  split <;> rfl

/-- `moveLeft` keeps a cursor inside the grid there (R143). -/
theorem moveLeft_inGrid {s : State} (hc : s.curC ≤ 9) (hr : s.curR ≤ 7) :
    (moveLeft s).curC ≤ 9 ∧ (moveLeft s).curR ≤ 7 := by
  by_cases h : s.curC = 0
  · by_cases h' : s.curR = 0 <;> simp [moveLeft, moveUp, h, h']
    omega
  · simp [moveLeft, h]
    omega

/-- The cells and the cursor are all that `newLine` changes. -/
theorem newLine_frame (s : State) :
    newLine s = { s with cell := (newLine s).cell, curC := (newLine s).curC, curR := (newLine s).curR } := by
  rw [newLine, scrollIfNeeded_frame]
  rfl

/-- The cells and the cursor are all that `backspace` changes. -/
theorem backspace_frame (s : State) :
    backspace s = { s with
      cell := (backspace s).cell, curC := (backspace s).curC, curR := (backspace s).curR } := by
  rw [backspace, moveLeft_frame, putAdvance_frame, moveLeft_frame]

/-- What `resetText` sets, in one record (R149). -/
theorem resetText_eq (fg : RGB) (s : State) :
    resetText fg s =
      { s with cell := fillGrid 10 8 blankCell, curC := 0, curR := 0, curColor := fg } := rfl

/-- What `hardReset` sets, in one record (R260). -/
theorem hardReset_eq (s : State) :
    hardReset s =
      { s with
        gfx := false, esc := false, cell := fillGrid 10 8 blankCell, curC := 0, curR := 0,
        curColor := Config.grayFg, pix := fillGrid 64 64 black, ptrX := 0, ptrY := 0 } := rfl

end Sys2Proof.Machine
end

