-- ==== Sys2Proof/Laws/Tick.lean ====
section
/-! SUPPORT. What a blink update and a step can do, once for each. -/

namespace Sys2Proof.Machine

/-- Before the deadline the blink update does nothing (R270). -/
theorem blinkUpdate_before {now : Nat} {s : State} (h : now < s.blinkDeadline) : blinkUpdate now s = s := by
  have : ¬ now ≥ s.blinkDeadline := by omega
  simp [blinkUpdate, this]

/-- At and after the deadline the blink update toggles once (R270). -/
theorem blinkUpdate_reached {now : Nat} {s : State} (h : s.blinkDeadline ≤ now) :
    blinkUpdate now s = s.setBlink (!s.blinkVisible) (now + 300) := by
  simp [blinkUpdate, h, Config.blinkHalfPeriod]

/-- The blink state is all that the blink update changes ("nothing else", R270). -/
theorem blinkUpdate_frame (now : Nat) (s : State) :
    blinkUpdate now s = { s with
      blinkVisible := (blinkUpdate now s).blinkVisible, blinkDeadline := (blinkUpdate now s).blinkDeadline } := by
  simp only [blinkUpdate]
  split <;> rfl

/-- Taking an input changes the inputs and the free-value index only. -/
theorem consumeInput_frame (s : State) :
    consumeInput s = { s with
      inputs := (consumeInput s).inputs, freeCount := (consumeInput s).freeCount } := by
  simp only [consumeInput]
  split <;> rfl

/-- Phases (c) and (d) change the blink state and the output only. -/
theorem finishTick_frame (now : Nat) (s : State) :
    finishTick now s = { s with
      blinkVisible := (finishTick now s).blinkVisible
      blinkDeadline := (finishTick now s).blinkDeadline
      frame := (finishTick now s).frame } := by
  rw [finishTick, blinkUpdate_frame]
  rfl

/-- A tick that ends in a next state ran its byte, took its input and finished. -/
theorem tick_next {byte : Option Byte} {now : Nat} {s t : State} (h : tick byte now s = .next t) :
    ∃ u, dispatchInput byte s = .next u ∧ t = finishTick now (consumeInput u) := by
  unfold tick at h
  split at h
  · rename_i u hu
    exact ⟨u, hu, by cases h; rfl⟩
  · cases h
  · cases h

/-- Everything a step can do: run the byte of a tick, let an idle tick pass, or take the power-on reset. -/
theorem step_cases {s t : State} (h : step s = .next t) :
    (∃ b now u, nextInput s = .tick (some b) now ∧ exec (decode s.esc s.gfx b) s = .next u ∧
      t = finishTick now (consumeInput u)) ∨
    (∃ now, nextInput s = .tick none now ∧ t = finishTick now (consumeInput s)) ∨
    (nextInput s = .rst ∧ t = powerOn (consumeInput s)) := by
  unfold step takeInput at h
  split at h
  · rename_i byte now hi
    obtain ⟨u, hu, rfl⟩ := tick_next h
    cases byte with
    | none =>
      refine .inr (.inl ⟨now, hi, ?_⟩)
      cases hu
      rfl
    | some b => exact .inl ⟨b, now, u, hi, hu, rfl⟩
  · rename_i hi
    refine .inr (.inr ⟨hi, ?_⟩)
    cases h
    rfl

/-- A step under a listed input is a step under that input. -/
theorem step_of_inputs {s : State} {i : TickInput} {rest : List TickInput} (h : s.inputs = i :: rest) :
    step s = takeInput i s := by
  simp [step, nextInput, h]

/-- Taking a listed input moves the list on. -/
theorem consumeInput_of_inputs {s : State} {i : TickInput} {rest : List TickInput} (h : s.inputs = i :: rest) :
    consumeInput s = s.setInputs rest := by
  simp [consumeInput, h]

/-- A run of one more step is a step and then the run, for any machine of the host's form. -/
theorem run_succ_of (M : Host.Core) {s t : M.State} (h : M.step s = .next t) (k : Nat) :
    M.run (k + 1) s = M.run k t := by
  simp [Host.Core.run, h]

/-- A run of one more step of this machine is a step and then the run. -/
theorem run_succ {s t : State} (h : step s = .next t) (k : Nat) : core.run (k + 1) s = core.run k t :=
  run_succ_of core h k

end Sys2Proof.Machine
end

