-- ==== Sys2Proof/Tests/Slice0.lean ====
section
/-! SUPPORT. Tests on small states, with the expected results of 95_test_vectors.md (named by their ids there) or of the
rule named, and the witnesses: for each statement with hypotheses a state and operands that meet them. -/

namespace Sys2Proof.Machine.Tests

/-! Helpers. -/

/-- The next state, if there is one. -/
def after (o : Host.Outcome State Fault Refusal) : Option State :=
  match o with
  | .next t => some t
  | .fault _ => none
  | .refused _ => none

/-- A small state: the given flags, cursor and pointer, blank cells, black pixels, green text, a blink far away. -/
def small (gfx esc : Bool) (c r : Nat) (x y : Coord6) : State where
  gfx := gfx
  esc := esc
  cell := fillGrid 10 8 blankCell
  curC := c
  curR := r
  curColor := ⟨0, 255, 0⟩
  pix := fillGrid 64 64 black
  ptrX := x
  ptrY := y
  blinkVisible := false
  blinkDeadline := 1000
  inputs := []
  frame := none
  freeCount := 0

/-- A text-mode state with the cursor at `(c, r)` and a different code in every cell. -/
def lettered (c r : Nat) : State :=
  (small false false c r 0 0).setCell (tabulate 10 8 fun c r => ⟨BitVec.ofNat 8 (32 + 10 * r.val + c.val), ⟨255, 0, 0⟩⟩)

/-- A graphics-mode state with the pointer at `(x, y)` and a red pixel there. -/
def painted (x y : Coord6) : State := pixWrite x y ⟨255, 0, 0⟩ (small true false 0 0 x y)

/-- The code and colour of `lettered` at `(c, r)`. -/
def letter (c r : Nat) : TextCell := ⟨BitVec.ofNat 8 (32 + 10 * r + c), ⟨255, 0, 0⟩⟩

/-- A state with the given inputs to come. -/
def fed (s : State) (l : List TickInput) : State := s.setInputs l

/-- The example glyphs of the vectors 2.10: 6 wide, 8 high, the underscore in row 7, one dot of 0x41. -/
def exampleGlyphs : GlyphSource where
  cellW := 6
  cellH := 8
  lit ch dx dy := (ch == 95 && dy == 7) || (ch == 0x41 && dx == 2 && dy == 3)

/-! The operand conditions of R113: each refuses an ill-formed term. -/

theorem test_wf_refuses_color_alt_63 : (Instr.eColor true 63).wf = false := by decide
theorem test_wf_refuses_enop_above : (Instr.eNop 0x40).wf = false := by decide
theorem test_wf_refuses_enop_below : (Instr.eNop 0x02).wf = false := by decide
theorem test_wf_refuses_tign_of_cr : (Instr.tIgn 0x0D).wf = false := by decide
theorem test_wf_refuses_tign_of_esc : (Instr.tIgn 0x1B).wf = false := by decide
theorem test_wf_refuses_tign_of_nul : (Instr.tIgn 0x00).wf = false := by decide
theorem test_wf_refuses_tchar_of_hrst : (Instr.tChar 0xFF).wf = false := by decide
theorem test_wf_refuses_tchar_of_del : (Instr.tChar 0x7F).wf = false := by decide
theorem test_wf_refuses_tchar_below : (Instr.tChar 0x1F).wf = false := by decide
theorem test_wf_refuses_black_0 : (Instr.gBlack 0).wf = false := by decide
theorem test_wf_refuses_black_63 : (Instr.gBlack 63).wf = false := by decide
theorem test_wf_refuses_pixel_0 : (Instr.gPixel 0).wf = false := by decide
theorem test_wf_refuses_pixel_27 : (Instr.gPixel 27).wf = false := by decide
theorem test_wf_accepts_bounds :
    (Instr.eColor false 63).wf ∧ (Instr.eNop 0x1B).wf ∧ (Instr.tIgn 0x1F).wf ∧ (Instr.tChar 0xFE).wf ∧
    (Instr.gBlack 62).wf ∧ (Instr.gPixel 63).wf := by decide
theorem test_assembler_refuses_pixel_27 : assemble (.gPixel 27) = none := by decide

/-! Decoding: bytes written out from the formats of R102 to R106, one for each mnemonic. -/

theorem test_decode_hrst : decode true true 0b11111111 = .hrst := by decide
theorem test_decode_nul : decode true false 0b00000000 = .nul := by decide
theorem test_decode_etxtgray : decode true false 0b00000010 = .eTxtGray := by decide
theorem test_decode_etxtgreen : decode true true 0b00000001 = .eTxtGreen := by decide
theorem test_decode_ecolor : decode true true 0b11000101 = .eColor true 5 := by decide
theorem test_decode_egfx : decode true false 0b01111111 = .eGfx 63 := by decide
theorem test_decode_enop : decode true false 0b00011011 = .eNop 0x1B := by decide
theorem test_decode_esc : decode false true 0b00011011 = .esc := by decide
theorem test_decode_tcr : decode false false 0b00001101 = .tCr := by decide
theorem test_decode_tdel : decode false false 0b01111111 = .tDel := by decide
theorem test_decode_tign : decode false false 0b00001010 = .tIgn 0x0A := by decide
theorem test_decode_tchar : decode false false 0b11111110 = .tChar 0xFE := by decide
theorem test_decode_gexit : decode false true 0b11000000 = .gExit := by decide
theorem test_decode_gblack : decode false true 0b11000101 = .gBlack 5 := by decide
theorem test_decode_gsety : decode false true 0b10000101 = .gSetY 5 := by decide
theorem test_decode_gsetx : decode false true 0b01000101 = .gSetX 5 := by decide
theorem test_decode_gpixel : decode false true 0b00001101 = .gPixel 13 := by decide

/-- A table word is the key of R100: `esc` in bit 9, `gfx` in bit 8, the byte below. -/
theorem test_table_words :
    decodeTableWord 16 0b1001000000 = some (.eGfx 0) ∧ decodeTableWord 16 0b0111000000 = some .gExit ∧
    decodeTableWord 16 0b10000000000 = none := by decide

/-! One instruction, one step. -/

/-- PR-1, HR-1. -/
theorem test_hrst : (after (exec .hrst (small true true 7 5 40 12))).map
    (fun t => (t.gfx, t.esc, t.curC, t.ptrX, t.ptrY, t.blinkDeadline)) = some (false, false, 0, 0, 0, 1000) := by
  decide
/-- HR-1: every cell blank, and the gray foreground, whatever it is. -/
theorem test_hrst_text : exec .hrst (lettered 7 5) =
    .next ({ small false false 0 0 0 0 with curColor := Config.grayFg }) := rfl
/-- PR-5. -/
theorem test_nul : after (exec .nul (small false true 3 3 0 0)) = some (small false true 3 3 0 0) := by rfl
/-- ES-1. -/
theorem test_etxtgray : exec .eTxtGray { lettered 2 0 with esc := true } =
    .next ({ small false false 0 0 0 0 with curColor := Config.grayFg }) := rfl
/-- ES-2, ES-3: the pixels and the pointer stay. -/
theorem test_etxtgreen : exec .eTxtGreen { painted 0 11 with esc := true } =
    .next ({ painted 0 11 with gfx := false, curColor := Config.greenFg }) := rfl
/-- ES-5. -/
theorem test_ecolor : (after (exec (.eColor false 27) (small true true 0 0 0 0))).map
    (fun t => (t.gfx, t.esc, t.curColor)) = some (true, false, ⟨255, 127, 63⟩) := by decide
/-- ES-7: bit 6 is ignored. -/
theorem test_ecolor_alt : (after (exec (.eColor true 62) (small false true 0 0 0 0))).map
    (fun t => (t.gfx, t.esc, t.curColor)) = some (false, false, ⟨127, 255, 255⟩) := by decide
/-- ES-11. -/
theorem test_egfx : (after (exec (.eGfx 63) (small false true 4 2 7 9))).map
    (fun t => (t.gfx, t.esc, t.curC, t.ptrX)) = some (true, false, 4, 7) := by decide
/-- ES-16. -/
theorem test_enop : after (exec (.eNop 0x0C) (small true true 0 0 0 11)) = some (small true false 0 0 0 11) := by rfl
/-- PR-7. -/
theorem test_esc : after (exec .esc (small true false 0 0 3 3)) = some (small true true 0 0 3 3) := by rfl
/-- PR-8. -/
theorem test_tcr : after (exec .tCr (small false false 4 2 0 0)) = some (small false false 0 3 0 0) := by rfl
/-- TS-16, on a full grid: row 6 holds the old row 7, row 7 is blank. -/
theorem test_tcr_scrolls : (after (exec .tCr (lettered 2 7))).map
    (fun t => (t.curC, t.curR, t.cellAt 0 6, t.cellAt 9 0, t.cellAt 4 7)) =
    some (0, 7, letter 0 7, letter 9 1, blankCell) := by decide
/-- TS-11. -/
theorem test_tdel : (after (exec .tDel (lettered 0 1))).map
    (fun t => (t.curC, t.curR, t.cellAt 9 0, t.cellAt 8 0, t.cellAt 0 1)) =
    some (9, 0, ⟨32, ⟨0, 0, 0⟩⟩, letter 8 0, letter 0 1) := by decide
/-- TS-12. -/
theorem test_tdel_at_origin : (after (exec .tDel (lettered 0 0))).map
    (fun t => (t.curC, t.curR, t.cellAt 0 0, t.cellAt 8 6, t.cellAt 9 6, t.cellAt 0 7)) =
    some (9, 6, letter 0 1, letter 8 7, blankCell, blankCell) := by decide
/-- PR-12. -/
theorem test_tign : after (exec (.tIgn 0x0A) (lettered 1 1)) = some (lettered 1 1) := by rfl
/-- TS-1. -/
theorem test_tchar : (after (exec (.tChar 0x41) (small false false 3 0 0 0))).map
    (fun t => (t.curC, t.curR, t.cellAt 3 0, t.cellAt 4 0)) =
    some (4, 0, ⟨0x41, ⟨0, 255, 0⟩⟩, blankCell) := by decide
/-- TS-3. -/
theorem test_tchar_scrolls : (after (exec (.tChar 0x5A) (lettered 9 7))).map
    (fun t => (t.curC, t.curR, t.cellAt 0 0, t.cellAt 9 6, t.cellAt 0 7)) =
    some (0, 7, letter 0 1, ⟨0x5A, ⟨0, 255, 0⟩⟩, blankCell) := by decide
/-- GD-1. -/
theorem test_gexit : after (exec .gExit (small true false 4 2 7 9)) = some (small false false 4 2 7 9) := by rfl
/-- GD-2. -/
theorem test_gblack : (after (exec (.gBlack 5) (painted 1 0))).map (fun t => (t.pixAt 1 0, t.ptrX, t.ptrY)) =
    some (black, 2, 0) := by decide
/-- GD-3. -/
theorem test_gblack_wraps : (after (exec (.gBlack 62) (painted 63 63))).map (fun t => (t.pixAt 63 63, t.ptrX, t.ptrY)) =
    some (black, 0, 0) := by decide
/-- GD-5. -/
theorem test_gsety : after (exec (.gSetY 63) (small true false 0 0 7 9)) = some (small true false 0 0 7 63) := by rfl
/-- GD-6. -/
theorem test_gsetx : after (exec (.gSetX 5) (small true false 0 0 7 9)) = some (small true false 0 0 5 9) := by rfl
/-- GD-8. -/
theorem test_gpixel : (after (exec (.gPixel 0x3F) (small true false 0 0 5 5))).map
    (fun t => (t.pixAt 5 5, t.pixAt 6 5, t.ptrX, t.ptrY)) = some (⟨255, 255, 255⟩, black, 6, 5) := by decide
/-- GS-3. -/
theorem test_gpixel_wraps : (after (exec (.gPixel 3) (small true false 0 0 63 10))).map
    (fun t => (t.pixAt 63 10, t.ptrX, t.ptrY)) = some (⟨255, 0, 0⟩, 0, 11) := by decide

/-! The shared operations and the tick. -/

/-- CC-1, CC-3, CC-4, CC-10; off the quantized colours no code. -/
theorem test_colours : colorDecode 5 = ⟨63, 63, 0⟩ ∧ colorDecode 27 = ⟨255, 127, 63⟩ ∧
    colorDecode 36 = ⟨0, 63, 127⟩ ∧ colorCode ⟨255, 127, 63⟩ = some 27 ∧ colorCode ⟨1, 0, 0⟩ = none := by decide
/-- TS-7, TS-8, TS-9a, TS-9b. -/
theorem test_moves :
    moveLeft (lettered 0 0) = lettered 9 7 ∧ moveRight (lettered 9 7) = lettered 0 0 ∧
    moveUp (lettered 5 0) = lettered 5 7 ∧ moveDown (lettered 5 7) = lettered 5 0 := ⟨rfl, rfl, rfl, rfl⟩
/-- TS-5. -/
theorem test_no_scroll : scrollIfNeeded (lettered 3 5) = lettered 3 5 := rfl
/-- BT-1 to BT-4. -/
theorem test_blink :
    (let t := blinkUpdate 1016 (small true false 0 0 0 0); (t.blinkVisible, t.blinkDeadline)) = (true, 1316) ∧
    (let t := blinkUpdate 999 (small true false 0 0 0 0); (t.blinkVisible, t.blinkDeadline)) = (false, 1000) ∧
    (let t := blinkUpdate 1000 (small true false 0 0 0 0); (t.blinkVisible, t.blinkDeadline)) = (true, 1300) ∧
    (let t := blinkUpdate 5000 (small true false 0 0 0 0); (t.blinkVisible, t.blinkDeadline)) = (true, 5300) := by
  decide
/-- A tick with a byte: the instruction, the blink update, the list moved on. -/
theorem test_step : (after (step (fed (small true false 0 0 5 5) [.tick (some 0x3F) 1016, .rst]))).map
    (fun t => (t.ptrX, t.blinkDeadline, t.inputs)) = some (6, 1316, [.rst]) := by rfl
/-- R340. -/
theorem test_step_rst : step (fed (small true true 7 5 40 12) [.rst, .tick none 3]) =
    .next { State.reset with inputs := [.tick none 3] } := rfl
/-- A fetched table word runs in the context of its key: G.EXIT leaves graphics mode. -/
theorem test_fetch_word : (after (step ((small false true 0 0 0 0).withFetchWord 16 0x1C0))).map
    (fun t => (t.gfx, t.esc, t.inputs)) = some (false, false, []) := by rfl
/-- ES-13, in two steps: ESC ESC leaves no escape pending. -/
theorem test_esc_esc : (after (core.run 2 (fed (small false false 0 0 0 0)
    [.tick (some 0x1B) 0, .tick (some 0x1B) 16]))).map (fun t : State => (t.esc, t.curC)) = some (false, 0) := by rfl
/-- RD-1. -/
theorem test_render_graphics : (let f := renderWith exampleGlyphs (painted 5 5); (frameAt f 5 5, frameAt f 6 5)) =
    (some ⟨255, 0, 0⟩, some black) := by decide
/-- RD-4. -/
theorem test_render_glyph : frameAt (paintGlyph exampleGlyphs 0x41 ⟨0, 255, 0⟩ 1 0 blankFrame) 8 3 =
    some ⟨0, 255, 0⟩ := by decide
/-- RD-3. -/
theorem test_render_cursor :
    (let f := renderCursor exampleGlyphs (small false false 3 2 0 0) blankFrame;
      (frameAt f 18 23, frameAt f 23 23, frameAt f 24 23, frameAt f 18 22)) =
    (some ⟨0, 255, 0⟩, some ⟨0, 255, 0⟩, none, none) := by decide

/-! Witnesses: the hypotheses of each statement, met, at the boundary values of its clauses. -/

/-- `DecodeOfEncodeIsInstruction`: operands at both ends, in each context. -/
theorem witness_decode_of_encode :
    (Instr.eColor true 62).wf = true ∧ (Instr.eColor true 62).inContext true true = true ∧
    (Instr.eColor false 63).wf = true ∧ (Instr.eNop 0x03).wf = true ∧ (Instr.eNop 0x3F).inContext true false = true ∧
    (Instr.tChar 0xFE).wf = true ∧ (Instr.tChar 0xFE).inContext false false = true ∧
    (Instr.gBlack 1).wf = true ∧ (Instr.gBlack 62).inContext false true = true := by decide
/-- `UnsendableValues`: a character at the end of its range, and colour 63. -/
theorem witness_unsendable :
    decode false false 0x7E = .tChar 0x7E ∧ decode false false 0x80 = .tChar 0x80 ∧
    decode true false 0xBF = .eColor false 63 := by decide
/-- `PseudoInstructionBytes`: a code other than 0 and 27, writable codes, and a list with one that is not. -/
theorem witness_pseudo :
    ((26 : BitVec 6) ≠ 0 ∧ (26 : BitVec 6) ≠ 27) ∧
    (∀ c ∈ [(0x20 : Byte), 0x7E, 0x80, 0xFE], WritableCode c) ∧
    ∃ c ∈ [(0x41 : Byte), 0x7F], ¬ WritableCode c := by decide
/-- `ColourCodesAndColoursCorrespond`: a quantized colour and one that is not. -/
theorem witness_colour_codes : colorCode ⟨255, 127, 63⟩ = some 27 ∧ ¬ Quantized ⟨1, 0, 0⟩ := by decide
/-- `CharacterStoredAndCursorAdvanced`: the ends of the code ranges, and the cursor in each clause. -/
theorem witness_character :
    (WritableCode 0x20 ∧ WritableCode 0x7E ∧ WritableCode 0x80 ∧ WritableCode 0xFE) ∧
    (CursorInGrid (lettered 8 7) ∧ (lettered 8 7).curC < 9) ∧
    (CursorInGrid (lettered 9 6) ∧ (lettered 9 6).curC = 9 ∧ (lettered 9 6).curR < 7) ∧
    (CursorInGrid (lettered 9 7) ∧ (lettered 9 7).curC = 9 ∧ (lettered 9 7).curR = 7) := by decide
/-- `CarriageReturnStartsNewLine`: the cursor in each clause. -/
theorem witness_carriage_return :
    (CursorInGrid (lettered 9 6) ∧ (lettered 9 6).curR < 7) ∧ (CursorInGrid (lettered 0 7) ∧ (lettered 0 7).curR = 7) := by
  decide
/-- `DeleteClearsCellToTheLeft`: the cursor in each clause. -/
theorem witness_delete :
    (CursorInGrid (lettered 1 0) ∧ 1 ≤ (lettered 1 0).curC) ∧
    (CursorInGrid (lettered 0 1) ∧ (lettered 0 1).curC = 0 ∧ 1 ≤ (lettered 0 1).curR) ∧
    (CursorInGrid (lettered 0 0) ∧ (lettered 0 0).curC = 0 ∧ (lettered 0 0).curR = 0) := by decide
/-- `BackspaceUndoesWriteChar`: the cursor in each clause. -/
theorem witness_backspace :
    (CursorInGrid (lettered 8 7) ∧ ¬ ((lettered 8 7).curC = 9 ∧ (lettered 8 7).curR = 7)) ∧
    (CursorInGrid (lettered 9 6) ∧ ¬ ((lettered 9 6).curC = 9 ∧ (lettered 9 6).curR = 7)) ∧
    (CursorInGrid (lettered 9 7) ∧ (lettered 9 7).curC = 9 ∧ (lettered 9 7).curR = 7) := by decide
/-- `VerticalMovesWrapRows`, `HorizontalMovesAreToroidal`: opposite corners. -/
theorem witness_moves :
    (lettered 5 0).curR ≤ 7 ∧ (lettered 5 7).curR ≤ 7 ∧ CursorInGrid (lettered 0 0) ∧ CursorInGrid (lettered 9 7) := by
  decide
/-- `TypingFillsGridInReadingOrder`: 79 and 80 characters from the origin, and places in each clause. -/
theorem witness_typing :
    (lettered 0 0).curC = 0 ∧ (lettered 0 0).curR = 0 ∧
    (List.replicate 79 (0x41 : Byte)).length ≤ 79 ∧ 78 < (List.replicate 79 (0x41 : Byte)).length ∧
    ((List.replicate 79 (0x41 : Byte)).length ≤ 79 ∧ 79 < 80) ∧
    (List.replicate 80 (0x41 : Byte)).length = 80 ∧ 79 < (List.replicate 80 (0x41 : Byte)).length ∧ 10 ≤ 79 :=
  ⟨rfl, rfl, by simp, by simp, ⟨by simp, by omega⟩, by simp, by simp, by omega⟩
/-- The byte ranges of the decoding clauses: a value at both ends of each. -/
theorem witness_byte_ranges :
    (((0x01 : Byte) ≤ 0x01 ∧ (0x0C : Byte) ≤ 0x0C) ∧ ((0x0E : Byte) ≤ 0x0E ∧ (0x1A : Byte) ≤ 0x1A) ∧
      ((0x1C : Byte) ≤ 0x1C ∧ (0x1F : Byte) ≤ 0x1F)) ∧
    (((0x80 : Byte) ≤ 0x80 ∧ (0x80 : Byte) ≤ 0xFE) ∧ ((0x80 : Byte) ≤ 0xFE ∧ (0xFE : Byte) ≤ 0xFE)) ∧
    (((0x40 : Byte) ≤ 0x40 ∧ (0x40 : Byte) ≤ 0x7F) ∧ ((0x40 : Byte) ≤ 0x7F ∧ (0x7F : Byte) ≤ 0x7F)) ∧
    (((0x03 : Byte) ≤ 0x03 ∧ (0x03 : Byte) ≤ 0x3F) ∧ ((0x03 : Byte) ≤ 0x3F ∧ (0x3F : Byte) ≤ 0x3F)) ∧
    (((0x01 : Byte) ≤ 0x1A ∧ (0x1A : Byte) ≤ 0x1A) ∧ ((0x1C : Byte) ≤ 0x3F ∧ (0x3F : Byte) ≤ 0x3F)) ∧
    (((0xC1 : Byte) ≤ 0xC1 ∧ (0xC1 : Byte) ≤ 0xFE) ∧ ((0xC1 : Byte) ≤ 0xFE ∧ (0xFE : Byte) ≤ 0xFE)) ∧
    (((0x80 : Byte) ≤ 0x80 ∧ (0x80 : Byte) ≤ 0xBF) ∧ ((0x80 : Byte) ≤ 0xBF ∧ (0xBF : Byte) ≤ 0xBF)) := by decide
/-- `HardResetForgetsTheState`: two states that differ in both screens and in both flags. -/
theorem witness_hard_reset_forgets :
    (fed (lettered 7 5) [.tick (some 0xFF) 5]).inputs = [.tick (some 0xFF) 5] ∧
    (fed (small true true 0 0 40 12) [.tick (some 0xFF) 5]).inputs = [.tick (some 0xFF) 5] ∧
    (lettered 7 5).blinkVisible = (small true true 0 0 40 12).blinkVisible ∧
    (lettered 7 5).blinkDeadline = (small true true 0 0 40 12).blinkDeadline ∧
    (lettered 7 5).freeCount = (small true true 0 0 40 12).freeCount := by decide
/-- `ColourCommandSetsCurrentColour`: a state in graphics mode with an escape pending. -/
theorem witness_colour_command : (small true true 0 0 0 0).gfx = true := by decide
/-- `GraphicsCommandEntersGraphicsMode`: bytes of the dispatcher, and instructions that leave graphics mode and not. -/
theorem witness_graphics_command :
    ((0x01 : Byte) ≠ 0x00 ∧ (0x01 : Byte) ≠ 0x1B ∧ (0x01 : Byte) ≠ 0xFF) ∧
    ((0xFE : Byte) ≠ 0x00 ∧ (0xFE : Byte) ≠ 0x1B ∧ (0xFE : Byte) ≠ 0xFF) ∧
    (small true false 0 0 5 5).gfx = true ∧ (∃ t, exec (.gPixel 3) (small true false 0 0 5 5) = .next t) ∧
    ∃ t, exec .gExit (small true false 0 0 5 5) = .next t :=
  ⟨by decide, by decide, rfl, ⟨_, rfl⟩, ⟨_, rfl⟩⟩
/-- `PixelStoredAndPointerAdvanced`, `BlackPixelStoredAndPointerAdvanced`: the pointer in each clause. -/
theorem witness_pointer :
    (painted 62 63).ptrX ≠ 63 ∧ ((painted 63 62).ptrX = 63 ∧ (painted 63 62).ptrY ≠ 63) ∧
    ((painted 63 63).ptrX = 63 ∧ (painted 63 63).ptrY = 63) := by decide
/-- `FlagsWrittenOnlyAsListed`, `NoByteWritesBlinkOrPorts`: an instruction of each group with its next state. -/
theorem witness_exec :
    (∃ t, exec .hrst (small true true 0 0 0 0) = .next t) ∧ (∃ t, exec (.eGfx 0) (small false true 0 0 0 0) = .next t) ∧
    (∃ t, exec .esc (small true false 0 0 0 0) = .next t) ∧ (∃ t, exec .tDel (small false false 0 0 0 0) = .next t) ∧
    ∃ t, exec (.gBlack 1) (small true false 0 0 63 63) = .next t :=
  ⟨⟨_, rfl⟩, ⟨_, rfl⟩, ⟨_, rfl⟩, ⟨_, rfl⟩, ⟨_, rfl⟩⟩
/-- `EachScreenKeptWhileTheOtherIsActive`: a character in text mode, a pixel in graphics mode. -/
theorem witness_each_screen :
    (nextInput (fed (lettered 9 7) [.tick (some 0x41) 5]) ≠ .rst ∧
      (∀ now, nextInput (fed (lettered 9 7) [.tick (some 0x41) 5]) ≠ .tick (some 0xFF) now) ∧
      (∃ t, step (fed (lettered 9 7) [.tick (some 0x41) 5]) = .next t) ∧
      (fed (lettered 9 7) [.tick (some 0x41) 5]).gfx = false) ∧
    nextInput (fed (painted 63 63) [.tick (some 0xFE) 5]) ≠ .rst ∧
    (∀ now, nextInput (fed (painted 63 63) [.tick (some 0xFE) 5]) ≠ .tick (some 0xFF) now) ∧
    (∃ t, step (fed (painted 63 63) [.tick (some 0xFE) 5]) = .next t) ∧
    (fed (painted 63 63) [.tick (some 0xFE) 5]).gfx = true ∧ (fed (painted 63 63) [.tick (some 0xFE) 5]).esc = false :=
  ⟨⟨by simp [nextInput, fed], by simp [nextInput, fed], ⟨_, rfl⟩, rfl⟩, by simp [nextInput, fed],
    by simp [nextInput, fed], ⟨_, rfl⟩, rfl, rfl⟩
/-- `EscapeStaysPendingOverIdleTicks`: one tick without a byte, one with 0x00, before the byte that ends the escape. -/
theorem witness_escape_stays :
    (fed (small false true 0 0 0 0) [.tick none 0, .tick (some 0x00) 16, .tick (some 0x41) 32]).esc = true ∧
    (∀ i ∈ (fed (small false true 0 0 0 0) [.tick none 0, .tick (some 0x00) 16, .tick (some 0x41) 32]).inputs.take 2,
      ∃ now, i = .tick none now ∨ i = .tick (some 0x00) now) ∧
    ∃ t, core.run 2 (fed (small false true 0 0 0 0)
      [.tick none 0, .tick (some 0x00) 16, .tick (some 0x41) 32]) = .next t :=
  ⟨rfl, by simp [fed], ⟨_, rfl⟩⟩
/-- `StepRunsDecodedInstruction`: a pixel in graphics mode. -/
theorem witness_step_runs :
    (fed (painted 63 63) [.tick (some 0x3F) 5]).inputs = [.tick (some 0x3F) 5] ∧
    decode (fed (painted 63 63) [.tick (some 0x3F) 5]).esc (fed (painted 63 63) [.tick (some 0x3F) 5]).gfx 0x3F =
      .gPixel 63 ∧
    (Instr.gPixel 63).wf = true ∧ ∃ t, exec (.gPixel 63) (fed (painted 63 63) [.tick (some 0x3F) 5]) = .next t :=
  ⟨rfl, by decide, by decide, ⟨_, rfl⟩⟩
/-- `EncodedProgramRunsItsInstructions`: into graphics mode and one pixel, with the reset input still to come. -/
theorem witness_encoded_program :
    (fed (small false false 0 0 5 5) [.tick (some 0x1B) 0, .tick (some 0x40) 16, .tick (some 0x3F) 32, .rst]).inputs =
      [(Instr.esc, 0), (.eGfx 0, 16), (.gPixel 63, 32)].map (fun p => .tick (some (encode p.1)) p.2) ++ [.rst] ∧
    ∃ t, RunsInstructions [(.esc, 0), (.eGfx 0, 16), (.gPixel 63, 32)]
      (fed (small false false 0 0 5 5) [.tick (some 0x1B) 0, .tick (some 0x40) 16, .tick (some 0x3F) 32, .rst]) t :=
  ⟨by decide, _, rfl, rfl, _, rfl, rfl, rfl, _, rfl, rfl, rfl, _, rfl, rfl⟩
/-- `FetchWordRunsDecodedInstruction`: the word of `G.EXIT`. -/
theorem witness_fetch_word :
    decodeTableWord 16 0x1C0 = some .gExit ∧
    ∃ t, exec .gExit ((small false true 0 0 0 0).withFetchWord 16 0x1C0) = .next t := ⟨by decide, ⟨_, rfl⟩⟩
/-- `IdleTickOnlyBlinksAndRenders`, `StepWithoutListedInputIsIdleAtFreeTime`, `PowerOnResetGivesResetState`. -/
theorem witness_inputs :
    (fed (lettered 0 0) [.tick none 1000]).inputs = [.tick none 1000] ∧ (lettered 0 0).inputs = [] ∧
    (fed (lettered 0 0) [.rst, .tick none 7]).inputs = [.rst, .tick none 7] := by decide
/-- `EveryTickUpdatesBlinkByTimeAlone`: at the deadline, which is 1000, and one millisecond before it. -/
theorem witness_blink_tick :
    ((fed (painted 1 1) [.tick (some 0x3F) 1000]).inputs = [.tick (some 0x3F) 1000] ∧
      (∃ t, step (fed (painted 1 1) [.tick (some 0x3F) 1000]) = .next t) ∧
      (fed (painted 1 1) [.tick (some 0x3F) 1000]).blinkDeadline ≤ 1000) ∧
    (fed (lettered 0 0) [.tick none 999]).inputs = [.tick none 999] ∧
    (∃ t, step (fed (lettered 0 0) [.tick none 999]) = .next t) ∧
    999 < (fed (lettered 0 0) [.tick none 999]).blinkDeadline :=
  ⟨⟨rfl, ⟨_, rfl⟩, by decide⟩, rfl, ⟨_, rfl⟩, by decide⟩
/-- `BlinkPhaseLasts300Milliseconds`: the last millisecond of a phase and the first of the next. -/
theorem witness_blink_phase : (lettered 0 0).blinkDeadline ≤ 1000 ∧ 1299 < 1000 + 300 ∧ 1000 + 300 ≤ 1300 := by decide
/-- `FrameIsRenderOfStateAtEndOfTick`: a tick with a byte. -/
theorem witness_frame_of_tick :
    nextInput (fed (lettered 0 0) [.tick (some 0x41) 5]) ≠ .rst ∧
    ∃ t, step (fed (lettered 0 0) [.tick (some 0x41) 5]) = .next t := ⟨by simp [nextInput, fed], ⟨_, rfl⟩⟩
/-- `StepKeepsCursorInGrid`: the write that scrolls. -/
theorem witness_cursor_invariant :
    CursorInGrid (fed (lettered 9 7) [.tick (some 0x41) 5]) ∧
    ∃ t, step (fed (lettered 9 7) [.tick (some 0x41) 5]) = .next t := ⟨by decide, ⟨_, rfl⟩⟩
/-- `StepKeepsPixelsQuantized`, `StepKeepsColour27OutOfTheBuffer`: a pixel on a black buffer. -/
theorem witness_pixel_invariants :
    PixelsQuantized (fed (small true false 0 0 63 63) [.tick (some 0x3F) 5]) ∧
    NoPixelOfColour27 (fed (small true false 0 0 63 63) [.tick (some 0x3F) 5]) ∧
    ∃ t, step (fed (small true false 0 0 63 63) [.tick (some 0x3F) 5]) = .next t :=
  ⟨fun x hx y hy => ⟨0, by rw [State.pixAt]; exact (gridGet_fillGrid black black hx hy).symm⟩,
    fun x hx y hy => by
      rw [State.pixAt, show (fed (small true false 0 0 63 63) [.tick (some 0x3F) 5]).pix = fillGrid 64 64 black from rfl,
        gridGet_fillGrid black black hx hy]
      decide,
    ⟨_, rfl⟩⟩
/-- `StepKeepsCellsWritable`, `StepKeepsTextColoursKnown`: a character on a grid of different characters, the current
colour green, every cell red. -/
theorem witness_cell_invariants :
    CellsWritable (fed (lettered 9 7) [.tick (some 0xFE) 5]) ∧
    TextColoursKnown (fed (lettered 9 7) [.tick (some 0xFE) 5]) ∧
    ∃ t, step (fed (lettered 9 7) [.tick (some 0xFE) 5]) = .next t :=
  ⟨by decide,
    ⟨.inr (.inr ⟨12, by decide⟩), fun c hc r hr => .inr (.inr ⟨3, by revert c r; decide⟩)⟩,
    ⟨_, rfl⟩⟩
/-- `GraphicsFrameShowsEveryPixel`: the last pixel. -/
theorem witness_graphics_frame : (painted 63 63).gfx = true ∧ 63 < 64 := by decide
/-- `TextFrameShowsLitGlyphPixels`: the last pixel of the last cell under glyphs of 6 by 8, the cursor there or not. -/
theorem witness_text_frame :
    (lettered 9 7).gfx = false ∧ (lettered 0 0).gfx = false ∧ 9 < 10 ∧ 7 < 8 ∧
    5 < exampleGlyphs.cellW.val ∧ 7 < exampleGlyphs.cellH.val := by decide
/-- `TextFrameLeavesMarginToBackground`: column 60 right of cells of width 6 (RD-6), and row 56 below cells of height
7. -/
theorem witness_margin :
    (lettered 9 7).gfx = false ∧ CursorInGrid (lettered 9 7) ∧ 10 * exampleGlyphs.cellW.val ≤ 60 ∧
    8 * (GlyphSource.mk 6 7 exampleGlyphs.lit).cellH.val ≤ 56 := by decide
/-- `FrameDependsOnlyOnTheActiveScreen`: two states with the pixels in common, two with the text screen in common. -/
theorem witness_frame_depends :
    ((small true true 7 5 0 0).gfx = (small true false 0 0 3 3).gfx ∧ (small true true 7 5 0 0).gfx = true ∧
      (small true true 7 5 0 0).pix = (small true false 0 0 3 3).pix) ∧
    (small false true 7 5 0 0).gfx = (small false false 7 5 3 3).gfx ∧ (small false true 7 5 0 0).gfx = false ∧
    (small false true 7 5 0 0).cell = (small false false 7 5 3 3).cell ∧
    (small false true 7 5 0 0).curC = (small false false 7 5 3 3).curC ∧
    (small false true 7 5 0 0).curR = (small false false 7 5 3 3).curR ∧
    (small false true 7 5 0 0).curColor = (small false false 7 5 3 3).curColor ∧
    (small false true 7 5 0 0).blinkVisible = (small false false 7 5 3 3).blinkVisible :=
  ⟨⟨rfl, rfl, rfl⟩, rfl, rfl, rfl, rfl, rfl, rfl, rfl⟩

end Sys2Proof.Machine.Tests
end

section
/-! The colour quantizer: the levels, and the three fields of a colour operand (R130). -/

namespace Sys2Proof.Machine

@[simp] theorem level_zero : level 0 = 0 := rfl
@[simp] theorem level_one : level 1 = 63 := rfl
@[simp] theorem level_two : level 2 = 127 := rfl
@[simp] theorem level_three : level 3 = 255 := rfl

/-- The places of the channels: each two-bit field of the operand is read back whole, red from the low end. -/
@[simp] theorem colorDecode_append (r g b : BitVec 2) :
    colorDecode (b ++ g ++ r : BitVec (2 + 2 + 2)) = ⟨level r, level g, level b⟩ := by
  have red : (b ++ g ++ r).extractLsb' 0 2 = r := BitVec.extractLsb'_append_eq_right
  have green : (b ++ g ++ r).extractLsb' 2 2 = g := by
    rw [BitVec.extractLsb'_append_eq_of_le (by decide)]
    exact BitVec.extractLsb'_append_eq_right
  have blue : (b ++ g ++ r).extractLsb' 4 2 = b := by
    rw [BitVec.extractLsb'_append_eq_of_le (by decide)]
    exact BitVec.extractLsb'_append_eq_left
  simp only [colorDecode, red, green, blue]

/-- Settles O8: the four levels, and the field lemma for the places of the channels. -/
theorem quantizerTable : Obligations.QuantizerTable :=
  ⟨⟨level_zero, level_one, level_two, level_three⟩, colorDecode_append⟩

end Sys2Proof.Machine
end

section
/-! The text screen: how its cells read after a cursor move and after a scroll, what the writing micro-operations do in
each of their cases, and the vertical moves (R140 to R148). -/

namespace Sys2Proof.Machine

/-! Reading the cells. -/

@[simp] theorem cellAt_setCurC (s : State) (x c r : Nat) : (s.setCurC x).cellAt c r = s.cellAt c r := rfl
@[simp] theorem cellAt_setCurR (s : State) (y c r : Nat) : (s.setCurR y).cellAt c r = s.cellAt c r := rfl

/-- Under a cursor inside the grid `CellWrite` writes its cell: the bounds of `cellAt_cellWrite` hold. -/
theorem cellAt_cellWrite_cursor {s : State} (hs : CursorInGrid s) (ch : Byte) (k : RGB) (c r : Nat) :
    (cellWrite s.curC s.curR ch k s).cellAt c r = if c = s.curC ∧ r = s.curR then ⟨ch, k⟩ else s.cellAt c r := by
  obtain ⟨hc, hr⟩ := hs
  have hc : s.curC < 10 := by omega
  have hr : s.curR < 8 := by omega
  simp [cellAt_cellWrite, hc, hr]

/-- Storing the scrolled grid is the scroll of R142. -/
theorem scrolledUp_of_cell_eq {s t : State} (h : t.cell = scrolledGrid s.cell) : ScrolledUp s.cellAt t.cellAt := by
  have scrolled (c r : Nat) (hr : r < 8) : t.cellAt c r = if r < 7 then s.cellAt c (r + 1) else blankCell := by
    rw [State.cellAt, h]
    exact gridGet_scrolledGrid s.cell c r hr
  constructor
  · intro c _ r hr
    rw [scrolled c r (by omega), if_pos hr]
  · intro c _
    rw [scrolled c 7 (by decide), if_neg (by decide)]

/-! Writing a character. -/

/-- A writable code lies in the character range of R107 and is none of the codes that the decoder tests before it. -/
theorem decode_of_writableCode {b : Byte} (h : WritableCode b) : decode false false b = .tChar b := by
  unfold WritableCode at h
  have range : 0x20 ≤ b ∧ b ≤ 0xFE := by bv_omega
  have hrst : b ≠ 0xFF := by bv_omega
  have nul : b ≠ 0x00 := by bv_omega
  have esc : b ≠ 0x1B := by bv_omega
  have cr : b ≠ 0x0D := by bv_omega
  have del : b ≠ 0x7F := by bv_omega
  rw [decode, if_neg hrst, if_neg nul, if_neg Bool.false_ne_true, if_neg esc, if_neg Bool.false_ne_true,
    decodeText, if_neg cr, if_neg del, if_pos range]

theorem exec_tChar (ch : Byte) (s : State) : exec (.tChar ch) s = .next (writeChar ch s) := rfl

/-- The cells and the cursor are all that `writeChar` changes. -/
theorem writeChar_onlyGridAndCursor (ch : Byte) (s : State) : OnlyGridAndCursor s (writeChar ch s) :=
  putAdvance_frame ch s.curColor s

/-- `putAdvance_cases` for `writeChar`: the three places of the cursor, and the state each leads to (R140, R141). -/
theorem writeChar_cases (ch : Byte) {s : State} (hs : CursorInGrid s) :
    (s.curC < 9 ∧ writeChar ch s = (cellWrite s.curC s.curR ch s.curColor s).setCurC (s.curC + 1)) ∨
    (s.curC = 9 ∧ s.curR < 7 ∧
      writeChar ch s = ((cellWrite s.curC s.curR ch s.curColor s).setCurC 0).setCurR (s.curR + 1)) ∨
    (s.curC = 9 ∧ s.curR = 7 ∧
      writeChar ch s = (((cellWrite 9 7 ch s.curColor s).setCurC 0).setCell
        (scrolledGrid (cellWrite 9 7 ch s.curColor s).cell)).setCurR 7) :=
  putAdvance_cases ch s.curColor hs.1 hs.2

/-- Settles O10: `writeChar_cases` gives the next state at each place of the cursor; its cells are read by
`cellAt_cellWrite_cursor`, and after a scroll by `scrolledUp_of_cell_eq`. -/
theorem characterStoredAndCursorAdvanced : Obligations.CharacterStoredAndCursorAdvanced := by
  refine ⟨fun b => decode_of_writableCode, fun ch s hs => ⟨writeChar ch s, exec_tChar ch s,
    writeChar_onlyGridAndCursor ch s, ?_⟩⟩
  have written := cellAt_cellWrite_cursor hs ch s.curColor
  obtain ⟨hc, ht⟩ | ⟨hc, hr, ht⟩ | ⟨hc, hr, ht⟩ := writeChar_cases ch hs <;> rw [ht]
  case inl =>
    refine ⟨fun _ => ⟨rfl, rfl, fun c _ r _ => written c r⟩, ?_, ?_⟩ <;> intros <;> omega
  case inr.inl =>
    refine ⟨?_, fun _ _ => ⟨rfl, rfl, fun c _ r _ => ?_⟩, ?_⟩
    · omega
    · exact hc ▸ written c r
    · omega
  case inr.inr =>
    refine ⟨?_, ?_, fun _ _ => ⟨rfl, rfl, ?_⟩⟩
    · omega
    · omega
    · rw [hc, hr] at written
      simp only [← written]
      exact scrolledUp_of_cell_eq rfl

/-! The new line. -/

theorem exec_tCr (s : State) : exec .tCr s = .next (newLine s) := rfl

/-- Above row 7 a new line moves the cursor only (R148). -/
theorem newLine_of_lt {s : State} (h : s.curR < 7) : newLine s = (s.setCurC 0).setCurR (s.curR + 1) :=
  scrollIfNeeded_of_le (by simpa using h)

/-- On row 7 a new line scrolls the grid and stays on that row (R148). -/
theorem newLine_of_eq {s : State} (h : s.curR = 7) :
    newLine s = ((s.setCurC 0).setCell (scrolledGrid s.cell)).setCurR 7 := by
  rw [newLine, h, scrollIfNeeded_of_gt (by simp)]
  rfl

/-- A new line starts in column 0, with or without a scroll (R148). -/
@[simp] theorem newLine_curC (s : State) : (newLine s).curC = 0 := by
  rw [newLine, scrollIfNeeded_frame]
  rfl

/-- Settles O11: the two cases of a new line, above row 7 and on it. -/
theorem carriageReturnStartsNewLine : Obligations.CarriageReturnStartsNewLine := by
  refine ⟨rfl, fun s _ => ⟨newLine s, exec_tCr s, newLine_frame s, newLine_curC s, ?_, ?_⟩⟩
  · intro h
    rw [newLine_of_lt h]
    exact ⟨rfl, fun c _ r _ => rfl⟩
  · intro h
    rw [newLine_of_eq h]
    exact ⟨rfl, scrolledUp_of_cell_eq rfl⟩

/-! The vertical moves. -/

/-- Up is back by one modulo 8, from row 0 to row 7 (R145). -/
theorem moveUp_eq {s : State} (h : s.curR ≤ 7) : moveUp s = s.setCurR ((s.curR + 7) % 8) := by
  by_cases h0 : s.curR = 0
  · simp [moveUp, h0]
  · have : s.curR - 1 = (s.curR + 7) % 8 := by omega
    simp [moveUp, h0, this]

/-- Down is on by one modulo 8, from row 7 to row 0 (R146). -/
theorem moveDown_eq {s : State} (h : s.curR ≤ 7) : moveDown s = s.setCurR ((s.curR + 1) % 8) := by
  by_cases h7 : s.curR = 7
  · simp [moveDown, h7]
  · have : s.curR + 1 = (s.curR + 1) % 8 := by omega
    simp [moveDown, h7, ← this]

/-- Settles O14: up and down are one step modulo 8, and set the row only. -/
theorem verticalMovesWrapRows : Obligations.VerticalMovesWrapRows :=
  fun _ h => ⟨moveUp_eq h, moveDown_eq h⟩

end Sys2Proof.Machine
end

section
/-! The byte protocol: which part of the decoder reads a byte in text mode and under a pending escape, the ignored text
codes, and the escape marker (R107, R195, R200). -/

namespace Sys2Proof.Machine

/-- In text mode every byte but the three that are tested first is read by the text decoder (R107). -/
theorem decode_text {b : Byte} (hrst : b ≠ 0xFF) (nul : b ≠ 0x00) (esc : b ≠ 0x1B) :
    decode false false b = decodeText b := by
  rw [decode, if_neg hrst, if_neg nul, if_neg Bool.false_ne_true, if_neg esc, if_neg Bool.false_ne_true]

/-- Under a pending escape every byte but 0xFF and 0x00 is an escape argument, in either mode: 0x1B too (R107, R196). -/
theorem decode_pendingEscape {b : Byte} (hrst : b ≠ 0xFF) (nul : b ≠ 0x00) (gfx : Bool) :
    decode true gfx b = decodeEscape b := by
  rw [decode, if_neg hrst, if_neg nul, if_pos rfl]

/-! The ignored text codes. -/

/-- Below the character range, only the carriage return is not ignored by the text decoder (R200). -/
theorem decodeText_of_lt {b : Byte} (low : b < 0x20) (cr : b ≠ 0x0D) : decodeText b = .tIgn b := by
  have del : b ≠ 0x7F := by bv_omega
  have range : ¬ (0x20 ≤ b ∧ b ≤ 0xFE) := by bv_omega
  rw [decodeText, if_neg cr, if_neg del, if_neg range]

theorem exec_tIgn (n : Byte) (s : State) : exec (.tIgn n) s = .next s := rfl

/-- Settles O17: the listed codes lie below the character range and leave out NUL, the carriage return and the escape
marker, so that the text decoder reads them and ignores them. -/
theorem otherTextCodesAreIgnored : Obligations.OtherTextCodesAreIgnored := by
  refine ⟨fun b h => ?_, exec_tIgn⟩
  have low : b < 0x20 := by bv_omega
  have hrst : b ≠ 0xFF := by bv_omega
  have nul : b ≠ 0x00 := by bv_omega
  have cr : b ≠ 0x0D := by bv_omega
  have esc : b ≠ 0x1B := by bv_omega
  rw [decode_text hrst nul esc, decodeText_of_lt low cr]

/-! The escape marker. -/

/-- Without a pending escape the marker is tested before the mode (R107, R195). -/
theorem decode_escapeMarker (gfx : Bool) : decode false gfx 0x1B = .esc := by
  rw [decode, if_neg (by decide), if_neg (by decide), if_neg Bool.false_ne_true, if_pos rfl]

theorem exec_esc (s : State) : exec .esc s = .next (s.setEsc true) := rfl

theorem exec_eNop (n : Byte) (s : State) : exec (.eNop n) s = .next (s.setEsc false) := rfl

/-- Settles O19: the marker sets `esc`; as an escape argument it is none of the four commands, and only clears `esc`. -/
theorem escapeMarkerSetsEscape : Obligations.EscapeMarkerSetsEscape := by
  have argument : decodeEscape 0x1B = .eNop 0x1B := by decide
  refine ⟨decode_escapeMarker, fun gfx => ?_, fun s => ⟨exec_esc s, exec_eNop 0x1B s⟩⟩
  exact (decode_pendingEscape (by decide) (by decide) gfx).trans argument

end Sys2Proof.Machine
end

section
/-! The escape arguments: what the two text resets leave behind, which bytes the escape decoder reads as `E.GFX` and as
`E.NOP`, and which instructions write the mode flag (R220 to R225). -/

namespace Sys2Proof.Machine

/-! The text resets. -/

/-- A state that stores the blank grid shows a blank cell in every place (R149). -/
theorem gridBlank_of_cell_eq {t : State} (h : t.cell = fillGrid 10 8 blankCell) : GridBlank t := by
  intro c _ r _
  rw [State.cellAt, h, gridGet_fillGrid_default]

theorem exec_eTxtGray (s : State) :
    exec .eTxtGray s = .next (resetText Config.grayFg ((escapeArgument s).setGfx false)) := rfl

theorem exec_eTxtGreen (s : State) :
    exec .eTxtGreen s = .next (resetText Config.greenFg ((escapeArgument s).setGfx false)) := rfl

/-- What a text reset under a pending escape sets, in one record (R220, R221, R222). -/
theorem resetText_escapeArgument_eq (fg : RGB) (s : State) :
    resetText fg ((escapeArgument s).setGfx false) =
      { s with
        gfx := false, esc := false, cell := fillGrid 10 8 blankCell, curC := 0, curR := 0, curColor := fg } :=
  resetText_eq fg _

/-- Settles O22: the two arguments are the first that the escape decoder tests, and both commands are `resetText` with
their own foreground. -/
theorem textResetsBlankGridAndSetForeground : Obligations.TextResetsBlankGridAndSetForeground := by
  have gray : decodeEscape 0x02 = .eTxtGray := if_pos rfl
  have green : decodeEscape 0x01 = .eTxtGreen := by rw [decodeEscape, if_neg (by decide), if_pos rfl]
  refine ⟨fun gfx => ⟨?_, ?_⟩, fun s => ⟨?_, ?_⟩⟩
  · exact (decode_pendingEscape (by decide) (by decide) gfx).trans gray
  · exact (decode_pendingEscape (by decide) (by decide) gfx).trans green
  · rw [exec_eTxtGray, resetText_escapeArgument_eq]
    exact ⟨_, rfl, gridBlank_of_cell_eq rfl, rfl⟩
  · rw [exec_eTxtGreen, resetText_escapeArgument_eq]
    exact ⟨_, rfl, gridBlank_of_cell_eq rfl, rfl⟩

/-! The arguments told apart by bits 7 and 6. -/

/-- Bit 7 of a byte, as a bound. -/
theorem getLsbD_seven_iff (b : Byte) : b.getLsbD 7 = true ↔ 0x80 ≤ b := by
  rw [BitVec.getLsbD, Nat.testBit_eq_decide_div_mod_eq, decide_eq_true_iff]
  bv_omega

/-- Bit 6 of a byte whose bit 7 is clear, as a bound. -/
theorem getLsbD_six_iff {b : Byte} (high : b < 0x80) : b.getLsbD 6 = true ↔ 0x40 ≤ b := by
  rw [BitVec.getLsbD, Nat.testBit_eq_decide_div_mod_eq, decide_eq_true_iff]
  bv_omega

/-- From 0x03 to 0x7F the escape decoder goes by bit 6 alone (R107, R220). -/
theorem decodeEscape_of_lt {b : Byte} (low : 0x03 ≤ b) (high : b < 0x80) :
    decodeEscape b = if 0x40 ≤ b then .eGfx (payload b) else .eNop b := by
  have gray : b ≠ 0x02 := by bv_omega
  have green : b ≠ 0x01 := by bv_omega
  have color : ¬ b.getLsbD 7 = true := by
    rw [getLsbD_seven_iff]
    bv_omega
  simp only [decodeEscape, if_neg gray, if_neg green, if_neg color, getLsbD_six_iff high]

/-- Settles O25: below 0x40 bits 7 and 6 are clear, so that no command is named. -/
theorem otherEscapeArgumentsOnlyClearEscape : Obligations.OtherEscapeArgumentsOnlyClearEscape := by
  refine ⟨fun gfx b low high => ?_, exec_eNop⟩
  have hrst : b ≠ 0xFF := by bv_omega
  have nul : b ≠ 0x00 := by bv_omega
  have noGfx : ¬ 0x40 ≤ b := by bv_omega
  rw [decode_pendingEscape hrst nul, decodeEscape_of_lt low (by bv_omega), if_neg noGfx]

/-! Graphics mode, entered and kept. -/

theorem exec_eGfx (n : BitVec 6) (s : State) : exec (.eGfx n) s = .next ((s.setEsc false).setGfx true) := rfl

/-- In graphics mode every byte but the three that are tested first is read by the graphics decoder (R107). -/
theorem decode_graphics {b : Byte} (hrst : b ≠ 0xFF) (nul : b ≠ 0x00) (esc : b ≠ 0x1B) :
    decode false true b = decodeGraphics b := by
  rw [decode, if_neg hrst, if_neg nul, if_neg Bool.false_ne_true, if_neg esc, if_pos rfl]

@[simp] theorem newLine_gfx (s : State) : (newLine s).gfx = s.gfx := by rw [newLine_frame]

@[simp] theorem backspace_gfx (s : State) : (backspace s).gfx = s.gfx := by rw [backspace_frame]

@[simp] theorem writeChar_gfx (ch : Byte) (s : State) : (writeChar ch s).gfx = s.gfx :=
  by
  rw [writeChar_onlyGridAndCursor]

@[simp] theorem writeAndAdvance_gfx (k : RGB) (s : State) : (writeAndAdvance k s).gfx = s.gfx :=
  by
  rw [writeAndAdvance_frame]

/-- What an instruction does to the mode flag: it keeps it, or is `E.GFX` and sets it, or is one of the four that
clear it (R33, R44). -/
theorem exec_gfx_cases {i : Instr} {s t : State} (h : exec i s = .next t) :
    t.gfx = s.gfx ∨ (t.gfx = true ∧ ∃ n, i = .eGfx n) ∨
      (t.gfx = false ∧ (i = .hrst ∨ i = .eTxtGray ∨ i = .eTxtGreen ∨ i = .gExit)) := by
  cases i <;> obtain rfl := Host.Outcome.next.inj h
  case eGfx n => exact .inr (.inl ⟨rfl, n, rfl⟩)
  case hrst => exact .inr (.inr ⟨rfl, .inl rfl⟩)
  case eTxtGray => exact .inr (.inr ⟨rfl, .inr (.inl rfl)⟩)
  case eTxtGreen => exact .inr (.inr ⟨rfl, .inr (.inr (.inl rfl))⟩)
  case gExit => exact .inr (.inr ⟨rfl, .inr (.inr (.inr rfl))⟩)
  case tCr => exact .inl (newLine_gfx s)
  case tDel => exact .inl (backspace_gfx s)
  case tChar ch => exact .inl (writeChar_gfx ch s)
  case gBlack => exact .inl (writeAndAdvance_gfx black s)
  case gPixel p => exact .inl (writeAndAdvance_gfx (colorDecode p) s)
  case nul | esc | eColor | eNop | tIgn | gSetX | gSetY => exact .inl rfl

/-- Settles O24: from 0x40 to 0x7F bit 7 is clear and bit 6 set; the bytes after it are read by `decode_graphics`, and
`exec_gfx_cases` names the instructions that clear the mode flag. -/
theorem graphicsCommandEntersGraphicsMode : Obligations.GraphicsCommandEntersGraphicsMode := by
  refine ⟨fun gfx b low high => ?_, exec_eGfx, fun b nul esc hrst => decode_graphics hrst nul esc, ?_⟩
  · have hrst : b ≠ 0xFF := by bv_omega
    have nul : b ≠ 0x00 := by bv_omega
    rw [decode_pendingEscape hrst nul, decodeEscape_of_lt (by bv_omega) (by bv_omega), if_pos low, payload]
  · intro i s t hgfx h
    obtain kept | ⟨entered, _⟩ | ⟨_, leaver⟩ := exec_gfx_cases h
    · exact .inl (kept.trans hgfx)
    · exact .inl entered
    · exact .inr leaver

end Sys2Proof.Machine
end

section
/-! The graphics dispatcher: the ranges of bytes that its sub-commands cover, what a pixel write leaves at each place of
the pointer, the two pointer instructions, and the return to text mode (R172, R240 to R245). -/

namespace Sys2Proof.Machine

/-! The sub-commands as ranges of bytes. -/

/-- The sub-command field is the byte's quarter of the range (R240). -/
theorem subCommand_eq_iff (b : Byte) (op : BitVec 2) : subCommand b = op ↔ b.toNat / 64 = op.toNat := by
  have : b.toNat / 64 < 4 := by omega
  rw [← BitVec.toNat_inj, subCommand, BitVec.extractLsb'_toNat, Nat.shiftRight_eq_div_pow]
  simp [Nat.mod_eq_of_lt this]

/-- The graphics decoder goes by four ranges of bytes of equal size, from the top down (R240). -/
theorem decodeGraphics_eq (b : Byte) :
    decodeGraphics b =
      if 0xC0 ≤ b then if payload b = 0 then .gExit else .gBlack (payload b)
      else if 0x80 ≤ b then .gSetY (payload b)
      else if 0x40 ≤ b then .gSetX (payload b)
      else .gPixel (payload b) := by
  simp only [decodeGraphics, subCommand_eq_iff]
  by_cases control : 0xC0 ≤ b
  · rw [if_pos control, if_pos (by bv_omega)]
  by_cases setY : 0x80 ≤ b
  · rw [if_neg control, if_pos setY, if_neg (by bv_omega), if_pos (by bv_omega)]
  by_cases setX : 0x40 ≤ b
  · rw [if_neg control, if_neg setY, if_pos setX, if_neg (by bv_omega), if_neg (by bv_omega), if_pos (by bv_omega)]
  · rw [if_neg control, if_neg setY, if_neg setX, if_neg (by bv_omega), if_neg (by bv_omega), if_neg (by bv_omega)]

/-! Writing a pixel. -/

/-- A pixel write stores one pixel, at the pointer as it was before the advance (R172). -/
theorem pixAt_writeAndAdvance (k : RGB) (s : State) (x y : Nat) :
    (writeAndAdvance k s).pixAt x y = if x = s.ptrX.toNat ∧ y = s.ptrY.toNat then k else s.pixAt x y := by
  rw [State.pixAt, writeAndAdvance_pix]
  exact pixAt_pixWrite s.ptrX s.ptrY k s x y

/-- A pixel write short of column 63 leaves the pointer one column right (R172). -/
theorem writeAndAdvance_of_ne (k : RGB) {s : State} (h : s.ptrX ≠ 63) :
    writeAndAdvance k s = (pixWrite s.ptrX s.ptrY k s).setPtrX (s.ptrX + 1) :=
  advancePointer_of_ne h

/-- A pixel write at column 63 leaves the pointer at the start of the next row, after row 63 of row 0 (R172). -/
theorem writeAndAdvance_of_eq (k : RGB) {s : State} (h : s.ptrX = 63) :
    writeAndAdvance k s =
      ((pixWrite s.ptrX s.ptrY k s).setPtrX 0).setPtrY (if s.ptrY = 63 then 0 else s.ptrY + 1) :=
  advancePointer_of_eq h

/-- What R172 says of `writeAndAdvance`, at each place of the pointer. -/
theorem pixelWrittenAndAdvanced_writeAndAdvance (k : RGB) (s : State) :
    PixelWrittenAndAdvanced k s (writeAndAdvance k s) := by
  refine ⟨writeAndAdvance_frame k s, fun x _ y _ => pixAt_writeAndAdvance k s x y, ?_, ?_, ?_⟩
  · intro hx
    rw [writeAndAdvance_of_ne k hx]
    exact ⟨coord_succ hx, rfl⟩
  · intro hx hy
    rw [writeAndAdvance_of_eq k hx, if_neg hy]
    exact ⟨rfl, coord_succ hy⟩
  · intro hx hy
    rw [writeAndAdvance_of_eq k hx, if_pos hy]
    exact ⟨rfl, rfl⟩

theorem exec_gPixel (p : BitVec 6) (s : State) :
    exec (.gPixel p) s = .next (writeAndAdvance (colorDecode p) s) := rfl

/-- Settles O27: the listed bytes lie in the lowest of the four ranges and leave out NUL and the escape marker; the
write is `writeAndAdvance` of the decoded colour. -/
theorem pixelStoredAndPointerAdvanced : Obligations.PixelStoredAndPointerAdvanced := by
  refine ⟨fun b h => ?_, rfl, decode_escapeMarker true, fun p s =>
    ⟨_, exec_gPixel p s, pixelWrittenAndAdvanced_writeAndAdvance (colorDecode p) s⟩⟩
  have hrst : b ≠ 0xFF := by bv_omega
  have nul : b ≠ 0x00 := by bv_omega
  have esc : b ≠ 0x1B := by bv_omega
  rw [decode_graphics hrst nul esc, decodeGraphics_eq, if_neg (by bv_omega), if_neg (by bv_omega),
    if_neg (by bv_omega), payload]

/-! The pointer instructions. -/

theorem exec_gSetY (y : Coord6) (s : State) : exec (.gSetY y) s = .next (s.setPtrY y) := rfl

theorem exec_gSetX (x : Coord6) (s : State) : exec (.gSetX x) s = .next (s.setPtrX x) := rfl

/-- Settles O29: the two middle ranges of the graphics decoder, and the two setters of the pointer. -/
theorem pointerCoordinatesSetFromPayload : Obligations.PointerCoordinatesSetFromPayload := by
  refine ⟨fun b low high => ?_, fun b low high => ?_, fun v s => ⟨exec_gSetY v s, exec_gSetX v s⟩⟩
  · rw [decode_graphics (by bv_omega) (by bv_omega) (by bv_omega), decodeGraphics_eq, if_neg (by bv_omega),
      if_pos low, payload]
  · rw [decode_graphics (by bv_omega) (by bv_omega) (by bv_omega), decodeGraphics_eq, if_neg (by bv_omega),
      if_neg (by bv_omega), if_pos low, payload]

/-! The return to text mode. -/

theorem exec_gExit (s : State) : exec .gExit s = .next (s.setGfx false) := rfl

/-- The painting of the text screen does not read the mode flag (R292). -/
@[simp] theorem renderText_setGfx (g : GlyphSource) (v : Bool) (s : State) (f : Frame) :
    renderText g (s.setGfx v) f = renderText g s f := rfl

/-- The painting of the cursor does not read the mode flag (R293). -/
@[simp] theorem renderCursor_setGfx (g : GlyphSource) (v : Bool) (s : State) (f : Frame) :
    renderCursor g (s.setGfx v) f = renderCursor g s f := rfl

/-- In text mode the text screen is painted, and the cursor over it while the blink shows it (R290). -/
theorem renderWith_text (g : GlyphSource) {s : State} (h : s.gfx = false) :
    renderWith g s =
      if s.blinkVisible then renderCursor g s (renderText g s blankFrame) else renderText g s blankFrame := by
  rw [renderWith, h, if_neg Bool.false_ne_true]

/-- Leaving graphics mode shows the text screen as it was kept (R241, R290). -/
theorem renderWith_setGfx_false (g : GlyphSource) (s : State) :
    renderWith g (s.setGfx false) =
      if s.blinkVisible then renderCursor g s (renderText g s blankFrame) else renderText g s blankFrame := by
  rw [renderWith_text g (setGfx_gfx s false), setGfx_blinkVisible, renderText_setGfx, renderCursor_setGfx]

/-- Settles O30: the exit clears the mode flag, after which the renderer paints the text screen, which that flag is no
part of. -/
theorem exitReturnsToTextMode : Obligations.ExitReturnsToTextMode := by
  refine ⟨?_, fun s => ⟨exec_gExit s, fun g => renderWith_setGfx_false g s⟩⟩
  rw [decode_graphics (by decide) (by decide) (by decide), decodeGraphics_eq, if_pos (by decide), if_pos (by decide)]

end Sys2Proof.Machine
end

section
/-! The renderer in graphics mode: which screen is painted, and what the frame holds at each pixel (R290, R291). -/

namespace Sys2Proof.Machine

/-- In graphics mode only the pixel buffer is painted, whatever the blink and the glyphs (R290). -/
theorem renderWith_graphics (g : GlyphSource) {s : State} (h : s.gfx = true) : renderWith g s = renderGfx s := by
  rw [renderWith, if_pos h]

/-- The painted buffer holds each pixel at its own coordinate, column with column and row with row (R291). -/
theorem frameAt_renderGfx (s : State) {x y : Nat} (hx : x < 64) (hy : y < 64) :
    frameAt (renderGfx s) x y = some (s.pixAt x y) := by
  rw [frameAt, renderGfx, gridGet_tabulate none _ hx hy]

/-- Settles O53: in graphics mode the frame is the painted buffer, read by `frameAt_renderGfx` at every pixel. -/
theorem graphicsFrameShowsEveryPixel : Obligations.GraphicsFrameShowsEveryPixel := by
  intro g s h x hx y hy
  rw [renderWith_graphics g h]
  exact frameAt_renderGfx s hx hy

end Sys2Proof.Machine
end

section
/-! Totality: an instruction, a tick, a step and a run always complete (R310). -/

namespace Sys2Proof.Machine

/-- The rule of every instruction, well formed or not, is an update of the state with no guard before it (R191). -/
theorem exec_completes (i : Instr) (s : State) : ∃ t, exec i s = .next t := by
  cases i <;> exact ⟨_, rfl⟩

theorem dispatchInput_completes (byte : Option Byte) (s : State) : ∃ t, dispatchInput byte s = .next t := by
  cases byte with
  | none => exact ⟨s, rfl⟩
  | some b => exact exec_completes (decode s.esc s.gfx b) s

/-- A tick whose byte completes takes its input and finishes: the converse of `tick_next`. -/
theorem tick_of_dispatchInput {byte : Option Byte} {s u : State} (h : dispatchInput byte s = .next u) (now : Nat) :
    tick byte now s = .next (finishTick now (consumeInput u)) := by
  rw [tick, h]

theorem takeInput_completes (i : TickInput) (s : State) : ∃ t, takeInput i s = .next t := by
  cases i with
  | tick byte now =>
    obtain ⟨u, hu⟩ := dispatchInput_completes byte s
    exact ⟨_, tick_of_dispatchInput hu now⟩
  | rst => exact ⟨powerOn (consumeInput s), rfl⟩

theorem step_completes (s : State) : ∃ t, step s = .next t := takeInput_completes (nextInput s) s

/-- A machine whose every step completes runs for any number of steps, for any machine of the host's form. -/
theorem run_completes_of (M : Host.Core) (total : ∀ s, ∃ t, M.step s = .next t) (k : Nat) (s : M.State) :
    ∃ t, M.run k s = .next t := by
  induction k generalizing s with
  | zero => exact ⟨s, rfl⟩
  | succ k ih =>
    obtain ⟨u, hu⟩ := total s
    rw [run_succ_of M hu]
    exact ih u

/-- Settles O46: no rule has a guard, so every byte completes, so every tick and the reset do, and a run follows by
induction on its steps. -/
theorem nothingEverStops : Obligations.NothingEverStops :=
  ⟨exec_completes, step_completes, run_completes_of core step_completes⟩

end Sys2Proof.Machine
end

section
/-! The opcode map of R108 as the decoder's specification: the instruction that each mnemonic makes of a byte in its
range, which is the one the decoder reads (R107) and whose byte it is (R113). -/

namespace Sys2Proof

/-- The instruction of a mnemonic whose open bits are those of `b` (R102 to R106). -/
def Mnemonic.instr (b : Byte) : Mnemonic → Instr
  | .HRST => .hrst
  | .NUL => .nul
  | .E_TXTGRAY => .eTxtGray
  | .E_TXTGREEN => .eTxtGreen
  | .E_COLOR => .eColor (b.getLsbD 6) (payload b)
  | .E_GFX => .eGfx (payload b)
  | .E_NOP => .eNop b
  | .ESC => .esc
  | .T_CR => .tCr
  | .T_DEL => .tDel
  | .T_IGN => .tIgn b
  | .T_CHAR => .tChar b
  | .G_EXIT => .gExit
  | .G_BLACK => .gBlack (payload b)
  | .G_SETY => .gSetY (payload b)
  | .G_SETX => .gSetX (payload b)
  | .G_PIXEL => .gPixel (payload b)

@[simp] theorem mnemonic_instr (m : Mnemonic) (b : Byte) : (m.instr b).mnemonic = m := by
  cases m <;> rfl

/-! The fields of a byte. -/

theorem payload_toNat (b : Byte) : (payload b).toNat = b.toNat % 64 := by
  simp [payload]

/-- A byte is its sub-command field over its payload field (R102). -/
theorem subCommand_or_payload (b : Byte) : (subCommand b).setWidth 8 <<< 6 ||| (payload b).setWidth 8 = b := by
  rw [← BitVec.setWidth_append_eq_shiftLeft_setWidth_or, subCommand, payload,
    BitVec.extractLsb'_append_extractLsb'_eq_extractLsb' (start₁ := 0) (len₁ := 6) rfl]
  simp

/-- A byte from its quarter of the range and its payload (R102, R103). -/
theorem or_payload_of_div_eq {b : Byte} {op : BitVec 2} (h : b.toNat / 64 = op.toNat) :
    op.setWidth 8 <<< 6 ||| (payload b).setWidth 8 = b := by
  rw [← (Machine.subCommand_eq_iff b op).2 h]
  exact subCommand_or_payload b

/-- The payload of a byte put together from two fields (R102). -/
theorem payload_or (op : BitVec 2) (n : BitVec 6) : payload (op.setWidth 8 <<< 6 ||| n.setWidth 8) = n := by
  rw [← BitVec.setWidth_append_eq_shiftLeft_setWidth_or, payload, BitVec.setWidth_eq]
  exact BitVec.extractLsb'_append_eq_right

/-! The map and the decoder. -/

/-- From 0x80 the escape decoder reads a colour (R107, R220). -/
theorem decodeEscape_of_ge {b : Byte} (high : 0x80 ≤ b) : decodeEscape b = .eColor (b.getLsbD 6) (payload b) := by
  rw [decodeEscape, if_neg (by bv_omega), if_neg (by bv_omega), if_pos ((Machine.getLsbD_seven_iff b).2 high)]

/-- The decoder reads a byte as the opcode map lists it: the escape arguments (R107, R108). -/
theorem decodeEscape_of_byteRange {b : Byte} {m : Mnemonic}
    (context : m = .E_TXTGRAY ∨ m = .E_TXTGREEN ∨ m = .E_COLOR ∨ m = .E_GFX ∨ m = .E_NOP)
    (range : m.byteRange b = true) : decodeEscape b = m.instr b := by
  obtain rfl | rfl | rfl | rfl | rfl := context <;>
    simp only [Mnemonic.byteRange, beq_iff_eq, Bool.and_eq_true, decide_eq_true_eq] at range
  · rw [range]; rfl
  · rw [range]; rfl
  · exact decodeEscape_of_ge range.1
  · exact (Machine.decodeEscape_of_lt (by bv_omega) (by bv_omega)).trans (if_pos range.1)
  · exact (Machine.decodeEscape_of_lt range.1 (by bv_omega)).trans (if_neg (by bv_omega))

/-- The decoder reads a byte as the opcode map lists it: the graphics bytes (R107, R108). -/
theorem decodeGraphics_of_byteRange {b : Byte} {m : Mnemonic}
    (context : m = .G_EXIT ∨ m = .G_BLACK ∨ m = .G_SETY ∨ m = .G_SETX ∨ m = .G_PIXEL)
    (range : m.byteRange b = true) : decodeGraphics b = m.instr b := by
  rw [Machine.decodeGraphics_eq]
  obtain rfl | rfl | rfl | rfl | rfl := context <;>
    simp only [Mnemonic.byteRange, beq_iff_eq, Bool.and_eq_true, Bool.or_eq_true, decide_eq_true_eq] at range
  · rw [range]; rfl
  · have nonzero : payload b ≠ 0 := fun h => by
      have := payload_toNat b
      rw [h] at this
      bv_omega
    rw [if_pos (by bv_omega), if_neg nonzero, Mnemonic.instr]
  · rw [if_neg (by bv_omega), if_pos range.1, Mnemonic.instr]
  · rw [if_neg (by bv_omega), if_neg (by bv_omega), if_pos range.1, Mnemonic.instr]
  · rw [if_neg (by bv_omega), if_neg (by bv_omega), if_neg (by bv_omega), Mnemonic.instr]

/-- The decoder reads a byte as the opcode map lists it: the text-mode bytes (R107, R108). -/
theorem decodeText_of_byteRange {b : Byte} {m : Mnemonic}
    (context : m = .T_CR ∨ m = .T_DEL ∨ m = .T_IGN ∨ m = .T_CHAR)
    (range : m.byteRange b = true) : decodeText b = m.instr b := by
  obtain rfl | rfl | rfl | rfl := context <;>
    simp only [Mnemonic.byteRange, beq_iff_eq, Bool.and_eq_true, Bool.or_eq_true, decide_eq_true_eq] at range
  · rw [range]; rfl
  · rw [range]; rfl
  · exact Machine.decodeText_of_lt (by bv_omega) (by bv_omega)
  · rw [decodeText, if_neg (by bv_omega), if_neg (by bv_omega), if_pos (by bv_omega), Mnemonic.instr]

/-- Of the three bytes that the decoder tests first, no other mnemonic lists 0xFF and 0x00, and only `E.NOP` lists 0x1B
(R107, R108). -/
theorem ne_of_byteRange {b : Byte} {m : Mnemonic} (range : m.byteRange b = true) :
    (m ≠ .HRST → b ≠ 0xFF) ∧ (m ≠ .NUL → b ≠ 0x00) ∧ (m ≠ .ESC ∧ m ≠ .E_NOP → b ≠ 0x1B) := by
  refine ⟨fun other => ?_, fun other => ?_, fun other => ?_⟩ <;> rintro rfl <;> revert range other <;>
    cases m <;> decide

/-- The decoder reads a byte as the opcode map lists it (R107, R108). -/
theorem decode_of_byteRange {esc gfx : Bool} {b : Byte} {m : Mnemonic} (context : m.inContext esc gfx = true)
    (range : m.byteRange b = true) : decode esc gfx b = m.instr b := by
  obtain ⟨hrst, nul, marker⟩ := ne_of_byteRange range
  cases m <;> simp only [Mnemonic.inContext, Bool.and_eq_true, Bool.not_eq_true'] at context
  case HRST => exact if_pos (beq_iff_eq.1 range)
  case NUL => rw [beq_iff_eq.1 range]; rfl
  case ESC => rw [beq_iff_eq.1 range, context]; exact Machine.decode_escapeMarker gfx
  case E_TXTGRAY | E_TXTGREEN | E_COLOR | E_GFX | E_NOP =>
    rw [context, Machine.decode_pendingEscape (hrst (by decide)) (nul (by decide))]
    exact decodeEscape_of_byteRange (by decide) range
  case T_CR | T_DEL | T_IGN | T_CHAR =>
    rw [context.1, context.2, Machine.decode_text (hrst (by decide)) (nul (by decide)) (marker (by decide))]
    exact decodeText_of_byteRange (by decide) range
  case G_EXIT | G_BLACK | G_SETY | G_SETX | G_PIXEL =>
    rw [context.1, context.2,
      Machine.decode_graphics (hrst (by decide)) (nul (by decide)) (marker (by decide))]
    exact decodeGraphics_of_byteRange (by decide) range

/-- A list of mnemonics of the context, one of which lists the byte. -/
theorem exists_byteRange_of_any {esc gfx : Bool} {b : Byte} (ms : List Mnemonic)
    (context : ∀ m ∈ ms, m.inContext esc gfx = true) (listed : ms.any (Mnemonic.byteRange b) = true) :
    ∃ m : Mnemonic, m.inContext esc gfx = true ∧ m.byteRange b = true := by
  obtain ⟨m, hm, range⟩ := List.any_eq_true.1 listed
  exact ⟨m, context m hm, range⟩

/-- The opcode map lists every byte in every context: the ranges leave no gap (R108, R111). -/
theorem exists_byteRange (esc gfx : Bool) (b : Byte) :
    ∃ m : Mnemonic, m.inContext esc gfx = true ∧ m.byteRange b = true := by
  match esc, gfx with
  | true, _ =>
    refine exists_byteRange_of_any [.HRST, .NUL, .E_TXTGRAY, .E_TXTGREEN, .E_COLOR, .E_GFX, .E_NOP]
      (by simp [Mnemonic.inContext]) ?_
    simp only [List.any_cons, List.any_nil, Mnemonic.byteRange, Bool.or_eq_true, Bool.and_eq_true, beq_iff_eq,
      decide_eq_true_eq, Bool.false_eq_true]
    bv_omega
  | false, false =>
    refine exists_byteRange_of_any [.HRST, .NUL, .ESC, .T_CR, .T_DEL, .T_IGN, .T_CHAR]
      (by simp [Mnemonic.inContext]) ?_
    simp only [List.any_cons, List.any_nil, Mnemonic.byteRange, Bool.or_eq_true, Bool.and_eq_true, beq_iff_eq,
      decide_eq_true_eq, Bool.false_eq_true]
    bv_omega
  | false, true =>
    refine exists_byteRange_of_any [.HRST, .NUL, .ESC, .G_EXIT, .G_BLACK, .G_SETY, .G_SETX, .G_PIXEL]
      (by simp [Mnemonic.inContext]) ?_
    simp only [List.any_cons, List.any_nil, Mnemonic.byteRange, Bool.or_eq_true, Bool.and_eq_true, beq_iff_eq,
      decide_eq_true_eq, Bool.false_eq_true]
    bv_omega

/-- A colour argument has the one byte that bit 6 and the payload name, and is well formed below 0xFF (R103, R112). -/
theorem wf_encode_eColor {b : Byte} (low : 0x80 ≤ b) (high : b ≤ 0xFE) :
    (Instr.eColor (b.getLsbD 6) (payload b)).wf = true ∧ encode (.eColor (b.getLsbD 6) (payload b)) = b := by
  have p := payload_toNat b
  have bit : b.getLsbD 6 = true ↔ 0xC0 ≤ b := by
    rw [BitVec.getLsbD, Nat.testBit_eq_decide_div_mod_eq, decide_eq_true_iff]
    bv_omega
  by_cases alt : 0xC0 ≤ b
  · rw [bit.2 alt]
    refine ⟨?_, or_payload_of_div_eq (op := 3) (by bv_omega)⟩
    simp only [Instr.wf, Bool.true_and, Bool.not_eq_true', beq_eq_false_iff_ne]
    bv_omega
  · rw [Bool.eq_false_iff.2 fun h => alt (bit.1 h)]
    exact ⟨rfl, or_payload_of_div_eq (op := 2) (by bv_omega)⟩

/-- In its range the instruction of a mnemonic is well formed and has this byte (R113). -/
theorem wf_encode_instr {b : Byte} {m : Mnemonic} (range : m.byteRange b = true) :
    (m.instr b).wf = true ∧ encode (m.instr b) = b := by
  have p := payload_toNat b
  cases m
  case HRST | NUL | E_TXTGRAY | E_TXTGREEN | ESC | T_CR | T_DEL | G_EXIT => exact ⟨rfl, (beq_iff_eq.1 range).symm⟩
  case E_NOP | T_IGN | T_CHAR => exact ⟨range, rfl⟩
  all_goals simp only [Mnemonic.byteRange, Bool.and_eq_true, Bool.or_eq_true, decide_eq_true_eq] at range
  case E_COLOR => exact wf_encode_eColor range.1 range.2
  case E_GFX | G_SETX => exact ⟨rfl, or_payload_of_div_eq (op := 1) (by bv_omega)⟩
  case G_SETY => exact ⟨rfl, or_payload_of_div_eq (op := 2) (by bv_omega)⟩
  case G_BLACK =>
    refine ⟨?_, or_payload_of_div_eq (op := 3) (by bv_omega)⟩
    simp only [Mnemonic.instr, Instr.wf, Bool.and_eq_true, decide_eq_true_eq]
    bv_omega
  case G_PIXEL =>
    have byte := or_payload_of_div_eq (op := 0) (b := b) (by bv_omega)
    refine ⟨?_, by simpa [Mnemonic.instr, encode] using byte⟩
    simp only [Mnemonic.instr, Instr.wf, Bool.and_eq_true, decide_eq_true_eq, bne_iff_ne]
    bv_omega

/-- An instruction is the one that its mnemonic makes of its byte (R113). -/
theorem instr_encode (i : Instr) : i.mnemonic.instr (encode i) = i := by
  cases i
  case eColor alt p => revert p; cases alt <;> decide
  case eGfx n => exact congrArg Instr.eGfx (payload_or 1 n)
  case gBlack n => exact congrArg Instr.gBlack (payload_or 3 n)
  case gSetY n => exact congrArg Instr.gSetY (payload_or 2 n)
  case gSetX n => exact congrArg Instr.gSetX (payload_or 1 n)
  case gPixel n => exact congrArg Instr.gPixel (by simpa [encode] using payload_or 0 n)
  all_goals rfl

/-- The byte of a well-formed instruction lies in the range of its mnemonic: the laws of `Laws.ByteRange` together. -/
theorem byteRange_encode {i : Instr} (wf : i.wf = true) : i.mnemonic.byteRange (encode i) = true := by
  cases i
  case hrst => exact Laws.ByteRange.hrst wf
  case nul => exact Laws.ByteRange.nul wf
  case eTxtGray => exact Laws.ByteRange.eTxtGray wf
  case eTxtGreen => exact Laws.ByteRange.eTxtGreen wf
  case eColor alt p => exact Laws.ByteRange.eColor alt p wf
  case eGfx n => exact Laws.ByteRange.eGfx n wf
  case eNop n => exact Laws.ByteRange.eNop n wf
  case esc => exact Laws.ByteRange.esc wf
  case tCr => exact Laws.ByteRange.tCr wf
  case tDel => exact Laws.ByteRange.tDel wf
  case tIgn n => exact Laws.ByteRange.tIgn n wf
  case tChar c => exact Laws.ByteRange.tChar c wf
  case gExit => exact Laws.ByteRange.gExit wf
  case gBlack n => exact Laws.ByteRange.gBlack n wf
  case gSetY y => exact Laws.ByteRange.gSetY y wf
  case gSetX x => exact Laws.ByteRange.gSetX x wf
  case gPixel p => exact Laws.ByteRange.gPixel p wf

/-! The obligations. -/

/-- Decoding undoes encoding, for a well-formed instruction in its context (R107, R113). -/
theorem decode_encode {esc gfx : Bool} {i : Instr} (wf : i.wf = true) (context : i.inContext esc gfx = true) :
    decode esc gfx (encode i) = i :=
  (decode_of_byteRange context (byteRange_encode wf)).trans (instr_encode i)

/-- What the decoder reads is well formed and of the context, and has the byte it was read from (R100, R111). -/
theorem decode_spec (esc gfx : Bool) (b : Byte) :
    (decode esc gfx b).wf = true ∧ (decode esc gfx b).inContext esc gfx = true ∧ encode (decode esc gfx b) = b := by
  obtain ⟨m, context, range⟩ := exists_byteRange esc gfx b
  obtain ⟨wf, byte⟩ := wf_encode_instr range
  rw [decode_of_byteRange context range, Instr.inContext, mnemonic_instr]
  exact ⟨wf, context, byte⟩

/-- Settles O1: the byte lies in the range of the instruction's mnemonic, and that mnemonic makes of it the instruction
again. -/
theorem decodeOfEncodeIsInstruction : Obligations.DecodeOfEncodeIsInstruction :=
  fun _ _ _ => decode_encode

/-- Settles O2: the map lists the byte, and in its range a mnemonic's instruction is well formed and has this byte. -/
theorem encodeOfDecodeIsByte : Obligations.EncodeOfDecodeIsByte := decode_spec

/-- Settles O3: a byte that the map lists is decoded so; conversely the decoded instruction is well formed, so that its
byte lies in the range of its mnemonic. -/
theorem decodeFollowsOpcodeMap : Obligations.DecodeFollowsOpcodeMap := by
  intro esc gfx b m
  constructor
  · rintro rfl
    obtain ⟨wf, context, byte⟩ := decode_spec esc gfx b
    have range := byteRange_encode wf
    rw [byte] at range
    exact ⟨context, range⟩
  · rintro ⟨context, range⟩
    rw [decode_of_byteRange context range, mnemonic_instr]

end Sys2Proof
end

section
/-! The opcode table read with the first match winning (R115), the bytes written out, the payloads and codes without an
encoding (R112), and the pseudo-instructions (R114). -/

namespace Sys2Proof

/-! The opcode table. -/

/-- The row of a table whose bits and mask have the given parts for `esc`, for `gfx` and for the byte (R100, R115). -/
def OpcodeRow.ofFields (m : Mnemonic) (escBit gfxBit : BitVec 1) (byte : Byte) (escMask gfxMask : BitVec 1)
    (byteMask : Byte) : OpcodeRow :=
  ⟨m, (escBit ++ gfxBit ++ byte : BitVec (1 + 1 + 8)), (escMask ++ gfxMask ++ byteMask : BitVec (1 + 1 + 8))⟩

/-- opcode_table.json with its bits and masks taken apart. -/
theorem opcodeRows_eq_ofFields :
    opcodeRows =
      [.ofFields .HRST 0 0 0xFF 0 0 0xFF, .ofFields .NUL 0 0 0x00 0 0 0xFF,
       .ofFields .E_TXTGRAY 1 0 0x02 1 0 0xFF, .ofFields .E_TXTGREEN 1 0 0x01 1 0 0xFF,
       .ofFields .E_COLOR 1 0 0x80 1 0 0x80, .ofFields .E_GFX 1 0 0x40 1 0 0xC0, .ofFields .E_NOP 1 0 0x00 1 0 0x00,
       .ofFields .ESC 0 0 0x1B 1 0 0xFF, .ofFields .T_CR 0 0 0x0D 1 1 0xFF, .ofFields .T_DEL 0 0 0x7F 1 1 0xFF,
       .ofFields .T_IGN 0 0 0x00 1 1 0xE0, .ofFields .T_CHAR 0 0 0x00 1 1 0x00,
       .ofFields .G_EXIT 0 1 0xC0 1 1 0xFF, .ofFields .G_BLACK 0 1 0xC0 1 1 0xC0,
       .ofFields .G_SETY 0 1 0x80 1 1 0xC0, .ofFields .G_SETX 0 1 0x40 1 1 0xC0,
       .ofFields .G_PIXEL 0 1 0x00 1 1 0xC0] := by
  decide

/-- Two words put together from parts are the same exactly if the parts are. -/
theorem append_eq_append_iff {v w : Nat} {x x' : BitVec v} {y y' : BitVec w} :
    x ++ y = x' ++ y' ↔ x = x' ∧ y = y' := by
  refine ⟨fun h => ⟨?_, ?_⟩, fun ⟨hx, hy⟩ => by rw [hx, hy]⟩
  · simpa [BitVec.extractLsb'_append_eq_left] using congrArg (BitVec.extractLsb' w v) h
  · simpa [BitVec.extractLsb'_append_eq_right] using congrArg (BitVec.extractLsb' 0 w) h

/-- A row selects a key where it selects both flags and the byte (R115). -/
theorem firstMatch_ofFields (esc gfx : Bool) (b : Byte) (m : Mnemonic) (e g em gm : BitVec 1) (v vm : Byte)
    (rows : List OpcodeRow) :
    firstMatch (decodeKey esc gfx b) (.ofFields m e g v em gm vm :: rows) =
      if (BitVec.ofBool esc &&& em = e ∧ BitVec.ofBool gfx &&& gm = g) ∧ b &&& vm = v then some m
      else firstMatch (decodeKey esc gfx b) rows := by
  have selects : decodeKey esc gfx b &&& (em ++ gm ++ vm : BitVec (1 + 1 + 8)) = (e ++ g ++ v : BitVec (1 + 1 + 8)) ↔
      (BitVec.ofBool esc &&& em = e ∧ BitVec.ofBool gfx &&& gm = g) ∧ b &&& vm = v := by
    rw [decodeKey, BitVec.and_append, BitVec.and_append, append_eq_append_iff, append_eq_append_iff]
  exact if_congr selects rfl rfl

/-! What the masks of the table ask of a byte. -/

theorem and_allOnes_byte (b : Byte) : b &&& 255#8 = b := BitVec.and_allOnes

theorem and_top_bit_iff (b : Byte) : b &&& 128#8 = 128#8 ↔ b.getLsbD 7 = true := by revert b; decide

theorem and_top_two_bits_iff {b : Byte} : ¬ b.getLsbD 7 = true → (b &&& 192#8 = 64#8 ↔ b.getLsbD 6 = true) := by
  revert b; decide

theorem and_subCommand_iff (b : Byte) :
    (b &&& 192#8 = 192#8 ↔ subCommand b = 3) ∧ (b &&& 192#8 = 128#8 ↔ subCommand b = 2) ∧
    (b &&& 192#8 = 64#8 ↔ subCommand b = 1) ∧ (b &&& 192#8 = 0#8 ↔ subCommand b = 0) := by
  revert b; decide

theorem and_top_three_bits_iff (b : Byte) : b &&& 224#8 = 0#8 ↔ b < 0x20 := by revert b; decide

theorem exit_iff (b : Byte) : b = 192#8 ↔ subCommand b = 3 ∧ payload b = 0 := by revert b; decide

/-! The table in each context. -/

theorem firstMatch_escape (gfx : Bool) (b : Byte) :
    firstMatch (decodeKey true gfx b) opcodeRows = some (decode true gfx b).mnemonic := by
  simp only [opcodeRows_eq_ofFields, decode, decodeEscape, apply_ite Instr.mnemonic]
  by_cases high : b.getLsbD 7 = true
  · simp [firstMatch_ofFields, and_allOnes_byte, and_top_bit_iff, high, apply_ite some, Instr.mnemonic]
  · simp [firstMatch_ofFields, and_allOnes_byte, and_top_bit_iff, and_top_two_bits_iff high, apply_ite some,
      Instr.mnemonic]

theorem firstMatch_text (b : Byte) :
    firstMatch (decodeKey false false b) opcodeRows = some (decode false false b).mnemonic := by
  by_cases hrst : b = 0xFF
  · rw [hrst]
    rfl
  have range : 0x20 ≤ b ∧ b ≤ 0xFE ↔ ¬ b < 0x20 := by bv_omega
  simp only [opcodeRows_eq_ofFields, decode, decodeText, apply_ite Instr.mnemonic, range, ite_not]
  simp [firstMatch_ofFields, and_allOnes_byte, and_top_three_bits_iff, apply_ite some, Instr.mnemonic]

theorem firstMatch_graphics (b : Byte) :
    firstMatch (decodeKey false true b) opcodeRows = some (decode false true b).mnemonic := by
  have fields : subCommand b = 3 ∨ subCommand b = 2 ∨ subCommand b = 1 ∨ subCommand b = 0 := by
    bv_omega
  simp only [opcodeRows_eq_ofFields, decode, decodeGraphics, apply_ite Instr.mnemonic]
  obtain h | h | h | h := fields <;>
    simp [firstMatch_ofFields, and_allOnes_byte, and_subCommand_iff, exit_iff b, h, apply_ite some, Instr.mnemonic]

/-- Settles O4: row by row the table asks of a key what the decoder tests, in each of the three contexts. -/
theorem tableFirstMatchAgreesWithDecode : Obligations.TableFirstMatchAgreesWithDecode := by
  intro esc gfx b
  match esc, gfx with
  | true, gfx => exact firstMatch_escape gfx b
  | false, false => exact firstMatch_text b
  | false, true => exact firstMatch_graphics b

/-- Settles O5: each byte lies in the range that the opcode map has for its mnemonic. -/
theorem writtenBytesDecode : Obligations.WrittenBytesDecode :=
  ⟨decode_of_byteRange (m := .T_CHAR) rfl rfl, decode_of_byteRange (m := .T_CR) rfl rfl,
    decode_of_byteRange (m := .ESC) rfl rfl, decode_of_byteRange (m := .G_PIXEL) rfl rfl,
    decode_of_byteRange (m := .G_SETX) rfl rfl, decode_of_byteRange (m := .G_SETY) rfl rfl,
    decode_of_byteRange (m := .G_BLACK) rfl rfl, decode_of_byteRange (m := .E_NOP) rfl rfl,
    decode_of_byteRange (m := .E_COLOR) rfl rfl, decode_of_byteRange (m := .E_GFX) rfl rfl⟩

/-! What has no encoding. -/

/-- An ill-formed instruction is read from no byte (R112). -/
theorem decode_ne_of_not_wf {i : Instr} (ill : i.wf = false) (esc gfx : Bool) (b : Byte) : decode esc gfx b ≠ i := by
  rintro rfl
  exact Bool.false_ne_true (ill.symm.trans (decode_spec esc gfx b).1)

/-- What the decoder reads has the byte it was read from (R100). -/
theorem eq_encode_of_decode {esc gfx : Bool} {b : Byte} {i : Instr} (h : decode esc gfx b = i) : b = encode i := by
  rw [← h, (decode_spec esc gfx b).2.2]

/-- The operand condition of `T.CHAR` is that of R35 (R113). -/
theorem wf_tChar_iff (c : Byte) : (Instr.tChar c).wf = true ↔ Machine.WritableCode c := by
  simp only [Instr.wf, Machine.WritableCode, Bool.or_eq_true, Bool.and_eq_true, decide_eq_true_eq]

/-- A text colour is sent with bit 6 clear (R103). -/
theorem decode_color (gfx : Bool) (p : BitVec 6) : decode true gfx (0x80 ||| p.setWidth 8) = .eColor false p :=
  decode_encode (i := .eColor false p) rfl rfl

/-- Colour 63 has one byte, since with bit 6 set it would be that of `HRST` (R112). -/
theorem decode_color_63_iff (gfx : Bool) (b : Byte) : (∃ alt, decode true gfx b = .eColor alt 63) ↔ b = 0xBF := by
  constructor
  · rintro ⟨alt, h⟩
    cases alt with
    | true => exact absurd h (decode_ne_of_not_wf rfl true gfx b)
    | false => exact eq_encode_of_decode h
  · rintro rfl
    exact ⟨false, decode_color gfx 63⟩

/-- Settles O6: the decoder reads well-formed instructions only, and these operands are ill formed. -/
theorem unsendableValues : Obligations.UnsendableValues := by
  intro esc gfx b
  refine ⟨⟨decode_ne_of_not_wf rfl esc gfx b, decode_ne_of_not_wf rfl esc gfx b⟩,
    ⟨decode_ne_of_not_wf rfl esc gfx b, decode_ne_of_not_wf rfl esc gfx b⟩, fun c h => ?_, decode_color gfx,
    decode_color_63_iff gfx b⟩
  rw [← wf_tChar_iff, ← h]
  exact (decode_spec esc gfx b).1

/-! The pseudo-instructions. -/

theorem assemble_of_wf {i : Instr} (wf : i.wf = true) : assemble i = some (encode i) := if_pos wf

/-- The instructions of an expansion are assembled one after another (R114). -/
theorem mapM_assemble_of_wf {is : List Instr} (wf : ∀ i ∈ is, i.wf = true) :
    is.mapM assemble = some (is.map encode) := by
  induction is with
  | nil => rfl
  | cons i is ih =>
    rw [List.mapM_cons, assemble_of_wf (wf i List.mem_cons_self), ih fun j hj => wf j (List.mem_cons_of_mem i hj)]
    rfl

/-- One ill-formed instruction refuses its list (R113). -/
theorem mapM_assemble_of_not_wf {is : List Instr} (ill : ∃ i ∈ is, i.wf = false) : is.mapM assemble = none := by
  obtain ⟨i, hi, ill⟩ := ill
  induction is with
  | nil => cases hi
  | cons j is ih =>
    rw [List.mapM_cons]
    cases hi with
    | head => rw [assemble, ill]; rfl
    | tail _ hi => rw [ih hi]; cases assemble j <;> rfl

/-- Settles O7: each expansion is a list of well-formed instructions, `TEXT` with a code that is none apart. -/
theorem pseudoInstructionBytes : Obligations.PseudoInstructionBytes := by
  refine ⟨rfl, fun p => rfl, rfl, rfl, fun x y => rfl, rfl, rfl, fun p h0 h27 => ?_, fun codes h => ?_,
    fun codes h => ?_⟩
  · have wf : (Instr.gPixel p).wf = true := by
      simp only [Instr.wf, Bool.and_eq_true, decide_eq_true_eq, bne_iff_ne]
      bv_omega
    rw [assemblePseudo, expandPseudo, if_neg h27, if_neg h0]
    exact mapM_assemble_of_wf (by simpa using wf)
  · have wf : ∀ i ∈ codes.map Instr.tChar, i.wf = true := by
      simpa [wf_tChar_iff] using h
    refine (mapM_assemble_of_wf wf).trans ?_
    simp [Function.comp_def, encode]
  · obtain ⟨c, hc, ill⟩ := h
    rw [← wf_tChar_iff, Bool.not_eq_true] at ill
    exact mapM_assemble_of_not_wf ⟨.tChar c, List.mem_map_of_mem hc, ill⟩

end Sys2Proof
end

section
/-! The inverse of the quantizer (R131, R132), and the colour command (R223). -/

namespace Sys2Proof.Machine

@[simp] theorem levelCode_level (v : BitVec 2) : levelCode (level v) = some v := by
  revert v; decide

/-- A channel with a code is the level of this code. -/
theorem level_of_levelCode {c : Byte} {v : BitVec 2} (h : levelCode c = some v) : level v = c := by
  unfold levelCode at h
  split_ifs at h with h0 h1 h2 h3 <;> obtain rfl := Option.some.inj h
  · exact h0.symm
  · exact h1.symm
  · exact h2.symm
  · exact h3.symm

/-- The three fields of a code, put together as `code` does it (R132). -/
theorem append_fields (r g b : BitVec 2) :
    (b ++ g ++ r : BitVec (2 + 2 + 2)) = r.setWidth 6 ||| g.setWidth 6 <<< 2 ||| b.setWidth 6 <<< 4 := by
  revert r g b; decide

/-- A code is the three fields that `decode` reads (R130). -/
theorem append_extractFields (p : BitVec 6) :
    (p.extractLsb' 4 2 ++ p.extractLsb' 2 2 ++ p.extractLsb' 0 2 : BitVec (2 + 2 + 2)) = p := by
  rw [BitVec.extractLsb'_append_extractLsb'_eq_extractLsb' (start₁ := 2) (len₁ := 2) rfl,
    BitVec.extractLsb'_append_extractLsb'_eq_extractLsb' (start₁ := 0) (len₁ := 2) rfl]
  exact BitVec.extractLsb'_eq_self

/-- `code` undoes `decode` (R132). -/
theorem colorCode_colorDecode (p : BitVec 6) : colorCode (colorDecode p) = some p := by
  simp only [colorCode, colorDecode, levelCode_level, ← append_fields, append_extractFields]

/-- A colour with a code is the one that the code decodes to (R132). -/
theorem colorDecode_of_colorCode {k : RGB} {p : BitVec 6} (h : colorCode k = some p) : colorDecode p = k := by
  unfold colorCode at h
  split at h
  · rename_i r g b hr hg hb
    rw [← append_fields] at h
    obtain rfl := Option.some.inj h
    rw [colorDecode_append, level_of_levelCode hr, level_of_levelCode hg, level_of_levelCode hb]
  · cases h

/-- Different codes give different colours (R131). -/
theorem colorDecode_injective : Function.Injective colorDecode := fun p q h =>
  Option.some.inj ((colorCode_colorDecode p).symm.trans ((congrArg colorCode h).trans (colorCode_colorDecode q)))

/-- Settles O9: `code` inverts `decode` channel by channel; a colour with a code is quantized, by the second clause. -/
theorem colourCodesAndColoursCorrespond : Obligations.ColourCodesAndColoursCorrespond :=
  ⟨colorCode_colorDecode, fun _ _ => colorDecode_of_colorCode, fun _ none_decodes =>
    Option.eq_none_iff_forall_ne_some.2 fun p h => none_decodes ⟨p, colorDecode_of_colorCode h⟩⟩

/-! The colour command. -/

theorem exec_eColor (alt : Bool) (p : BitVec 6) (s : State) :
    exec (.eColor alt p) s = .next ((s.setEsc false).setCurColor (colorDecode p)) := rfl

/-- Settles O23: the listed bytes are the range of `E.COLOR` in the opcode map; the graphics frame is that of the pixel
buffer, which the command keeps. -/
theorem colourCommandSetsCurrentColour : Obligations.ColourCommandSetsCurrentColour := by
  refine ⟨fun gfx b low high => ?_, decode_color_63_iff, fun alt p s => ⟨exec_eColor alt p s, fun graphics g => ?_⟩⟩
  · exact decode_of_byteRange (m := .E_COLOR) rfl (by simpa [Mnemonic.byteRange] using And.intro low high)
  · rw [renderWith_graphics g graphics]
    exact renderWith_graphics g graphics

end Sys2Proof.Machine
end

section
/-! The cursor's place in reading order: the horizontal moves, the backspace and typing all move it by one (R140 to
R147). -/

namespace Sys2Proof.Machine

/-! Places. -/

/-- The cursor's place in reading order, row by row. -/
def State.place (s : State) : Nat := s.curR * 10 + s.curC

/-- The cursor at place `k` of the reading order. -/
def State.setPlace (k : Nat) (s : State) : State := (s.setCurC (k % 10)).setCurR (k / 10)

@[simp] theorem setPlace_curC (k : Nat) (s : State) : (s.setPlace k).curC = k % 10 := rfl
@[simp] theorem setPlace_curR (k : Nat) (s : State) : (s.setPlace k).curR = k / 10 := rfl
@[simp] theorem setPlace_setPlace (j k : Nat) (s : State) : (s.setPlace j).setPlace k = s.setPlace k := rfl
@[simp] theorem cellAt_setPlace (k : Nat) (s : State) (c r : Nat) : (s.setPlace k).cellAt c r = s.cellAt c r := rfl

@[simp] theorem place_setPlace (k : Nat) (s : State) : (s.setPlace k).place = k := by
  simp only [State.place, setPlace_curC, setPlace_curR]
  omega

theorem place_lt {s : State} (hs : CursorInGrid s) : s.place < 80 := by
  obtain ⟨hc, hr⟩ := hs
  unfold State.place
  omega

theorem setPlace_inGrid {k : Nat} (h : k < 80) (s : State) : CursorInGrid (s.setPlace k) := by
  constructor
  · rw [setPlace_curC]
    omega
  · rw [setPlace_curR]
    omega

/-- Inside the grid the place determines the cursor. -/
theorem place_eq_iff {s : State} (hc : s.curC ≤ 9) (k : Nat) :
    s.place = k ↔ s.curC = k % 10 ∧ s.curR = k / 10 := by
  unfold State.place
  omega

/-- A move of the cursor to given coordinates is a move to their place. -/
theorem setPlace_eq {c : Nat} (hc : c ≤ 9) (r : Nat) (s : State) : s.setPlace (r * 10 + c) = (s.setCurC c).setCurR r := by
  have column : (r * 10 + c) % 10 = c := by omega
  have row : (r * 10 + c) / 10 = r := by omega
  rw [State.setPlace, column, row]

theorem setPlace_place {s : State} (hc : s.curC ≤ 9) : s.setPlace s.place = s := setPlace_eq hc s.curR s

/-! The horizontal moves. -/

/-- Past column 0 the move left stays on its row (R143). -/
theorem moveLeft_of_pos {s : State} (h : 1 ≤ s.curC) : moveLeft s = s.setCurC (s.curC - 1) :=
  if_neg (by omega)

/-- From column 0 the move left goes to the end of the row above (R143). -/
theorem moveLeft_of_zero {s : State} (h : s.curC = 0) : moveLeft s = moveUp (s.setCurC 9) := if_pos h

/-- Left is back by one place, from the first to the last (R143; the spec's D5). -/
theorem moveLeft_eq_setPlace {s : State} (hs : CursorInGrid s) : moveLeft s = s.setPlace ((s.place + 79) % 80) := by
  obtain ⟨hc, hr⟩ := hs
  by_cases h : s.curC = 0
  · have place : (s.place + 79) % 80 = (s.curR + 7) % 8 * 10 + 9 := by
      unfold State.place
      omega
    rw [place, setPlace_eq le_rfl, moveLeft_of_zero h, moveUp_eq (by simpa using hr), setCurC_curR]
  · have place : (s.place + 79) % 80 = s.curR * 10 + (s.curC - 1) := by
      unfold State.place
      omega
    rw [place, setPlace_eq (by omega), moveLeft_of_pos (by omega)]
    rfl

/-- Right is on by one place, from the last to the first (R144; the spec's D5). -/
theorem moveRight_eq_setPlace {s : State} (hs : CursorInGrid s) : moveRight s = s.setPlace ((s.place + 1) % 80) := by
  obtain ⟨hc, hr⟩ := hs
  by_cases h : s.curC = 9
  · have place : (s.place + 1) % 80 = (s.curR + 1) % 8 * 10 + 0 := by
      unfold State.place
      omega
    rw [place, setPlace_eq (by omega), moveRight, if_pos h, moveDown_eq (by simpa using hr), setCurC_curR]
  · have place : (s.place + 1) % 80 = s.curR * 10 + (s.curC + 1) := by
      unfold State.place
      omega
    rw [place, setPlace_eq (by omega), moveRight, if_neg h]
    rfl

/-- Settles O15: the moves are one place back and one place on, modulo the 80 places. -/
theorem horizontalMovesAreToroidal : Obligations.HorizontalMovesAreToroidal := by
  intro s hs
  have bound := place_lt hs
  have mod_lt (k : Nat) : k % 80 < 80 := Nat.mod_lt k (by decide)
  have left := moveLeft_eq_setPlace hs
  have right := moveRight_eq_setPlace hs
  refine ⟨moveLeft_frame s, by rw [right]; rfl, ?_, ?_, ?_, ?_⟩
  · rw [left]
    exact place_setPlace _ s
  · rw [right]
    exact place_setPlace _ s
  · have back : ((s.place + 79) % 80 + 1) % 80 = s.place := by omega
    rw [left, moveRight_eq_setPlace (setPlace_inGrid (mod_lt _) s), place_setPlace, setPlace_setPlace, back,
      setPlace_place hs.1]
  · have back : ((s.place + 1) % 80 + 79) % 80 = s.place := by omega
    rw [right, moveLeft_eq_setPlace (setPlace_inGrid (mod_lt _) s), place_setPlace, setPlace_setPlace, back,
      setPlace_place hs.1]

/-! The backspace. -/

/-- Short of the last place a write stores its cell and moves on by one place (R141). -/
theorem putAdvance_of_lt (ch : Byte) (k : RGB) {s : State} (hs : CursorInGrid s) (h : s.place < 79) :
    putAdvance ch k s = (cellWrite s.curC s.curR ch k s).setPlace (s.place + 1) := by
  obtain ⟨hc, hr⟩ := hs
  unfold State.place at h ⊢
  obtain ⟨h9, put⟩ | ⟨h9, h7, put⟩ | ⟨h9, h7, put⟩ := putAdvance_cases ch k hc hr
  · rw [put, Nat.add_assoc, setPlace_eq (by omega)]
    rfl
  · rw [put, show s.curR * 10 + s.curC + 1 = (s.curR + 1) * 10 + 0 by omega, setPlace_eq (by omega)]
  · omega

/-- At the last place a write stores its cell, scrolls the grid, and goes to the start of the last row (R141, R142). -/
theorem putAdvance_of_eq (ch : Byte) (k : RGB) {s : State} (hs : CursorInGrid s) (h : s.place = 79) :
    putAdvance ch k s = (s.setCell (scrolledGrid (gridSet s.cell 9 7 ⟨ch, k⟩))).setPlace 70 := by
  obtain ⟨hc, hr⟩ := hs
  unfold State.place at h
  obtain ⟨h9, put⟩ | ⟨h9, h7, put⟩ | ⟨h9, h7, put⟩ := putAdvance_cases ch k hc hr
  · omega
  · omega
  · rw [put]
    rfl

/-- A move left takes back the advance of a write that did not scroll. -/
theorem moveLeft_putAdvance_of_lt (ch : Byte) (k : RGB) {s : State} (hs : CursorInGrid s) (h : s.place < 79) :
    moveLeft (putAdvance ch k s) = cellWrite s.curC s.curR ch k s := by
  have back : (s.place + 1 + 79) % 80 = s.place := by omega
  rw [putAdvance_of_lt ch k hs h, moveLeft_eq_setPlace (setPlace_inGrid (by omega) _), place_setPlace,
    setPlace_setPlace, back]
  exact setPlace_place (s := cellWrite s.curC s.curR ch k s) hs.1

/-- After a write that scrolled, a move left leads to the place that the written cell has moved to. -/
theorem moveLeft_putAdvance_of_eq (ch : Byte) (k : RGB) {s : State} (hs : CursorInGrid s) (h : s.place = 79) :
    moveLeft (putAdvance ch k s) = (s.setCell (scrolledGrid (gridSet s.cell 9 7 ⟨ch, k⟩))).setPlace 69 := by
  rw [putAdvance_of_eq ch k hs h, moveLeft_eq_setPlace (setPlace_inGrid (by decide) _), place_setPlace,
    setPlace_setPlace]

/-- From any place but the first a backspace clears the place before, and stays there (R147). -/
theorem backspace_of_pos {s : State} (hs : CursorInGrid s) (h : 0 < s.place) :
    backspace s = cellWrite (moveLeft s).curC (moveLeft s).curR Config.space black (moveLeft s) := by
  have bound := place_lt hs
  refine moveLeft_putAdvance_of_lt Config.space black (moveLeft_inGrid hs.1 hs.2) ?_
  rw [moveLeft_eq_setPlace hs, place_setPlace]
  omega

/-- From the first place a backspace clears the last one, which scrolls (R147; the spec's D5 and D6). -/
theorem backspace_of_zero {s : State} (hs : CursorInGrid s) (h : s.place = 0) :
    backspace s = (s.setCell (scrolledGrid (gridSet s.cell 9 7 blankCell))).setPlace 69 := by
  have last : moveLeft s = s.setPlace 79 := by rw [moveLeft_eq_setPlace hs, h]
  rw [backspace, last, moveLeft_putAdvance_of_eq Config.space black (setPlace_inGrid (by decide) s) (place_setPlace 79 s)]
  rfl

theorem exec_tDel (s : State) : exec .tDel s = .next (backspace s) := rfl

/-- A scroll of a grid whose last cell was set first. -/
theorem scrolledUp_gridSet {s t : State} {a : TextCell} (h : t.cell = scrolledGrid (gridSet s.cell 9 7 a)) :
    ScrolledUp (fun c r => if c = 9 ∧ r = 7 then a else s.cellAt c r) t.cellAt := by
  have before : (s.setCell (gridSet s.cell 9 7 a)).cellAt = fun c r => if c = 9 ∧ r = 7 then a else s.cellAt c r := by
    funext c r
    simp [State.cellAt, gridGet_gridSet]
  rw [← before]
  exact scrolledUp_of_cell_eq h

/-- The cells after a backspace that does not scroll: the place before is blank. -/
theorem cellAt_backspace_of_pos {s : State} (hs : CursorInGrid s) (h : 0 < s.place) (c r : Nat) :
    (backspace s).cellAt c r =
      if c = (moveLeft s).curC ∧ r = (moveLeft s).curR then blankCell else s.cellAt c r := by
  rw [backspace_of_pos hs h, cellAt_cellWrite_cursor (moveLeft_inGrid hs.1 hs.2), moveLeft_frame]
  rfl

/-- Settles O12: a backspace is a write of a blank between two moves left, and the second move takes back the write's
advance, except at the last place, where the write scrolls. -/
theorem deleteClearsCellToTheLeft : Obligations.DeleteClearsCellToTheLeft := by
  refine ⟨rfl, fun s hs => ⟨backspace s, exec_tDel s, backspace_frame s, fun hc => ?_, fun hc hr => ?_, fun hc hr => ?_⟩⟩
  · have pos : 0 < s.place := by
      unfold State.place
      omega
    have cells := cellAt_backspace_of_pos hs pos
    rw [moveLeft_of_pos hc] at cells
    rw [backspace_of_pos hs pos, moveLeft_of_pos hc] at cells ⊢
    exact ⟨rfl, rfl, fun c _ r _ => cells c r⟩
  · have pos : 0 < s.place := by
      unfold State.place
      omega
    have left : moveLeft s = (s.setCurC 9).setCurR (s.curR - 1) := by
      rw [moveLeft_of_zero hc, moveUp, setCurC_curR, if_neg (by omega)]
    have cells := cellAt_backspace_of_pos hs pos
    rw [backspace_of_pos hs pos, left] at cells ⊢
    exact ⟨rfl, rfl, fun c _ r _ => cells c r⟩
  · have first : s.place = 0 := by simp [State.place, hc, hr]
    rw [backspace_of_zero hs first]
    exact ⟨rfl, rfl, scrolledUp_gridSet rfl⟩

/-- Writing the cell that the last one has moved to is writing the last one before the scroll. -/
theorem gridSet_scrolledGrid (g : TextGrid) (a b : TextCell) :
    gridSet (scrolledGrid (gridSet g 9 7 a)) 9 6 b = scrolledGrid (gridSet g 9 7 b) := by
  apply grid_ext blankCell
  intro c _ r hr
  simp only [gridGet_gridSet, gridGet_scrolledGrid _ c r hr]
  grind

/-- Settles O13: the move left at the start of the backspace takes back the write's advance, so that the blank is written
over the character; at the last place the write has scrolled, and the blank goes one row up. -/
theorem backspaceUndoesWriteChar : Obligations.BackspaceUndoesWriteChar := by
  intro ch s hs
  constructor
  · intro h
    have lt : s.place < 79 := by
      have := hs.1
      have := hs.2
      unfold State.place
      omega
    have left : moveLeft (writeChar ch s) = cellWrite s.curC s.curR ch s.curColor s :=
      moveLeft_putAdvance_of_lt ch s.curColor hs lt
    have blank := moveLeft_putAdvance_of_lt Config.space black (s := cellWrite s.curC s.curR ch s.curColor s) hs lt
    rw [backspace, left, blank]
    exact congrArg (s.setCell ·) (gridSet_gridSet s.cell s.curC s.curR ⟨ch, s.curColor⟩ blankCell)
  · intro h
    have last : s.place = 79 := by simp [State.place, h]
    have left := moveLeft_putAdvance_of_eq ch s.curColor hs last
    have blank := moveLeft_putAdvance_of_lt Config.space black
      (setPlace_inGrid (k := 69) (by decide) (s.setCell (scrolledGrid (gridSet s.cell 9 7 ⟨ch, s.curColor⟩)))) (by simp)
    rw [backspace, writeChar, left, blank]
    exact ⟨rfl, rfl, scrolledUp_gridSet (gridSet_scrolledGrid s.cell ⟨ch, s.curColor⟩ blankCell)⟩

/-! Typing. -/

theorem typing_concat (l : List Byte) (ch : Byte) (s : State) :
    (l ++ [ch]).foldl (fun u ch => writeChar ch u) s = writeChar ch (l.foldl (fun u ch => writeChar ch u) s) :=
  List.foldl_concat _ _ _ _

/-- What `l`, written from place 0 of `s`, leaves while it does not scroll. -/
structure TypedFromOrigin (l : List Byte) (s t : State) : Prop where
  inGrid : CursorInGrid t
  place : t.place = l.length
  color : t.curColor = s.curColor
  typed : ∀ k (h : k < l.length), t.cellAt (k % 10) (k / 10) = ⟨l[k], s.curColor⟩
  rest : ∀ k, l.length ≤ k → k < 80 → t.cellAt (k % 10) (k / 10) = s.cellAt (k % 10) (k / 10)

theorem typedFromOrigin_nil {s : State} (hc : s.curC = 0) (hr : s.curR = 0) : TypedFromOrigin [] s s where
  inGrid := ⟨by omega, by omega⟩
  place := by simp [State.place, hc, hr]
  color := rfl
  typed k h := absurd h (Nat.not_lt_zero k)
  rest _ _ _ := rfl

theorem writeChar_curColor (ch : Byte) (s : State) : (writeChar ch s).curColor = s.curColor := by
  rw [writeChar_onlyGridAndCursor]

/-- One more character that does not scroll goes to the next place. -/
theorem typedFromOrigin_concat {l : List Byte} {s t : State} (h : TypedFromOrigin l s t) (ch : Byte)
    (lt : l.length < 79) : TypedFromOrigin (l ++ [ch]) s (writeChar ch t) := by
  have put : writeChar ch t = (cellWrite t.curC t.curR ch t.curColor t).setPlace (l.length + 1) := by
    rw [writeChar, putAdvance_of_lt ch t.curColor h.inGrid (h.place ▸ lt), h.place]
  have cells (k : Nat) : (writeChar ch t).cellAt (k % 10) (k / 10) =
      if l.length = k then ⟨ch, s.curColor⟩ else t.cellAt (k % 10) (k / 10) := by
    have cursor : (k % 10 = t.curC ∧ k / 10 = t.curR) ↔ l.length = k := by
      rw [← h.place, place_eq_iff h.inGrid.1, eq_comm, @eq_comm _ (k / 10)]
    rw [put, cellAt_setPlace, cellAt_cellWrite_cursor h.inGrid, h.color]
    simp only [cursor]
  exact
    { inGrid := put ▸ setPlace_inGrid (by omega) _
      place := by rw [put, place_setPlace, List.length_append, List.length_singleton]
      color := (writeChar_curColor ch t).trans h.color
      typed := fun k hk => by
        rw [List.length_append, List.length_singleton] at hk
        rw [cells]
        by_cases last : l.length = k
        · subst last
          rw [if_pos rfl, List.getElem_concat_length rfl]
        · have lt : k < l.length := by omega
          rw [if_neg last, h.typed k lt, List.getElem_append_left lt]
      rest := fun k hk h80 => by
        rw [List.length_append, List.length_singleton] at hk
        rw [cells, if_neg (by omega), h.rest k (by omega) h80] }

/-- Up to 79 characters from the origin fill the grid in reading order. -/
theorem typedFromOrigin_typing {s : State} (hc : s.curC = 0) (hr : s.curR = 0) (l : List Byte) (len : l.length ≤ 79) :
    TypedFromOrigin l s (l.foldl (fun u ch => writeChar ch u) s) := by
  induction l using List.reverseRecOn with
  | nil => exact typedFromOrigin_nil hc hr
  | append_singleton l ch ih =>
    rw [List.length_append, List.length_singleton] at len
    rw [typing_concat]
    exact typedFromOrigin_concat (ih (by omega)) ch len

/-- The 80th character from the origin scrolls once: each place past the first row has moved up by one row (R349). -/
theorem cellAt_typing_scroll {l : List Byte} {s t : State} (h : TypedFromOrigin l s t) (len : l.length = 79) (ch : Byte) :
    (writeChar ch t).curC = 0 ∧ (writeChar ch t).curR = 7 ∧
    ScrolledUp (fun c r => if c = 9 ∧ r = 7 then ⟨ch, s.curColor⟩ else t.cellAt c r) (writeChar ch t).cellAt := by
  rw [writeChar, putAdvance_of_eq ch t.curColor h.inGrid (h.place.trans len), h.color]
  exact ⟨rfl, rfl, scrolledUp_gridSet rfl⟩

/-- Settles O16: by induction on the characters up to the 79th, and one write that scrolls after them. -/
theorem typingFillsGridInReadingOrder : Obligations.TypingFillsGridInReadingOrder := by
  intro l s t hc hr ht
  constructor
  · intro len
    have h := ht ▸ typedFromOrigin_typing hc hr l len
    obtain ⟨col, row⟩ := (place_eq_iff h.inGrid.1 _).1 h.place
    exact ⟨col, row, h.typed, h.rest⟩
  · intro len
    obtain rfl | ⟨l, ch, rfl⟩ := List.eq_nil_or_concat' l
    · cases len
    rw [List.length_append, List.length_singleton] at len
    have h := typedFromOrigin_typing hc hr l (by omega)
    obtain ⟨col, row, moved, blank⟩ := cellAt_typing_scroll h (by omega) ch
    rw [← typing_concat, ← ht] at col row moved blank
    refine ⟨col, row, fun k hk h10 => ?_, blank⟩
    rw [List.length_append, List.length_singleton] at hk
    rw [moved (k % 10) (by omega) (k / 10 - 1) (by omega), show k / 10 - 1 + 1 = k / 10 by omega]
    beta_reduce
    by_cases last : l.length = k
    · subst last
      rw [if_pos (by omega), List.getElem_concat_length rfl]
    · have lt : k < l.length := by omega
      rw [if_neg (by omega), h.typed k lt, List.getElem_append_left lt]

end Sys2Proof.Machine
end

section
/-! Pixel writes: the black pixel, and as many writes as the buffer has pixels (R172, R242). -/

namespace Sys2Proof.Machine

theorem exec_gBlack (n : BitVec 6) (s : State) : exec (.gBlack n) s = .next (writeAndAdvance black s) := rfl

/-- Settles O28: the listed bytes are the range of `G.BLACK` in the opcode map; the write is `writeAndAdvance` of black. -/
theorem blackPixelStoredAndPointerAdvanced : Obligations.BlackPixelStoredAndPointerAdvanced := by
  refine ⟨fun b low high => ?_, fun n s => ⟨_, exec_gBlack n s, pixelWrittenAndAdvanced_writeAndAdvance black s⟩⟩
  exact decode_of_byteRange (m := .G_BLACK) rfl (by simpa [Mnemonic.byteRange] using And.intro low high)

/-! The pointer's place in row-major order. -/

/-- The pointer's place in row-major order. -/
def State.pointerPlace (s : State) : Nat := s.ptrY.toNat * 64 + s.ptrX.toNat

theorem pointerPlace_lt (s : State) : s.pointerPlace < 4096 := by
  have hx : s.ptrX.toNat < 64 := s.ptrX.isLt
  have hy : s.ptrY.toNat < 64 := s.ptrY.isLt
  unfold State.pointerPlace
  omega

/-- The place determines the pointer. -/
theorem pointerPlace_injective {s t : State} (h : t.pointerPlace = s.pointerPlace) :
    t.ptrX = s.ptrX ∧ t.ptrY = s.ptrY := by
  have hx : s.ptrX.toNat < 64 := s.ptrX.isLt
  have tx : t.ptrX.toNat < 64 := t.ptrX.isLt
  unfold State.pointerPlace at h
  exact ⟨BitVec.eq_of_toNat_eq (by omega), BitVec.eq_of_toNat_eq (by omega)⟩

/-- A pixel inside the buffer is the pointer's exactly if its place is. -/
theorem pointerPlace_eq_iff (s : State) {x y : Nat} (hx : x < 64) :
    s.pointerPlace = y * 64 + x ↔ x = s.ptrX.toNat ∧ y = s.ptrY.toNat := by
  have sx : s.ptrX.toNat < 64 := s.ptrX.isLt
  unfold State.pointerPlace
  omega

/-! Many writes of one colour. -/

theorem iterate_writeAndAdvance_frame (k : RGB) (n : Nat) (s : State) :
    OnlyPixelsAndPointer s ((writeAndAdvance k)^[n] s) := by
  induction n with
  | zero => rfl
  | succ n ih =>
    rw [Function.iterate_succ_apply', writeAndAdvance_frame]
    generalize (writeAndAdvance k)^[n] s = t at ih ⊢
    rw [ih]

/-- Each write moves the pointer on by one place, modulo the size of the buffer (R172). -/
theorem pointerPlace_iterate (k : RGB) (n : Nat) (s : State) :
    ((writeAndAdvance k)^[n] s).pointerPlace = (s.pointerPlace + n) % 4096 := by
  induction n with
  | zero => exact (Nat.mod_eq_of_lt (pointerPlace_lt s)).symm
  | succ n ih =>
    rw [Function.iterate_succ_apply']
    refine (writeAndAdvance_place k _).trans ?_
    rw [← State.pointerPlace, ih]
    omega

/-- After `n` writes the pixels less than `n` places past the pointer, around the buffer, have the colour (R172). -/
theorem pixAt_iterate (k : RGB) (n : Nat) (len : n ≤ 4096) (s : State) {x y : Nat} (hx : x < 64) (hy : y < 64) :
    ((writeAndAdvance k)^[n] s).pixAt x y =
      if (y * 64 + x + (4096 - s.pointerPlace)) % 4096 < n then k else s.pixAt x y := by
  induction n with
  | zero => rfl
  | succ n ih =>
    have bound := pointerPlace_lt s
    rw [Function.iterate_succ_apply', pixAt_writeAndAdvance, ih (by omega), ← ite_or]
    refine if_congr ?_ rfl rfl
    rw [← pointerPlace_eq_iff _ hx, pointerPlace_iterate]
    omega

/-- Settles O31: after 4096 writes every pixel is less than 4096 places past the pointer, which is back. -/
theorem bufferFilledByItsSizeInWrites : Obligations.BufferFilledByItsSizeInWrites := by
  intro k s
  have place : ((writeAndAdvance k)^[4096] s).pointerPlace = s.pointerPlace := by
    have bound := pointerPlace_lt s
    rw [pointerPlace_iterate]
    omega
  have filled : ((writeAndAdvance k)^[4096] s).pix = fillGrid 64 64 k := by
    apply grid_ext black
    intro x hx y hy
    rw [gridGet_fillGrid black k hx hy, ← State.pixAt, pixAt_iterate k 4096 le_rfl s hx hy,
      if_pos (Nat.mod_lt _ (by decide))]
  obtain ⟨hx, hy⟩ := pointerPlace_injective place
  rw [iterate_writeAndAdvance_frame k 4096 s, filled, hx, hy]

end Sys2Proof.Machine
end

section
/-! What an instruction can change at all: the flags, the blink state and the ports, and the screen of the other mode
(R33, R34, R261, R315); the context-independent bytes (R193, R194, R196). -/

namespace Sys2Proof.Machine

/-! The context-independent bytes. -/

theorem exec_nul (s : State) : exec .nul s = .next s := rfl

/-- Settles O18: the opcode map lists 0x00 for `NUL` in every context, and its rule is the identity. -/
theorem nulChangesNothing : Obligations.NulChangesNothing :=
  ⟨fun _ _ => decode_of_byteRange (m := .NUL) rfl rfl, exec_nul⟩

theorem exec_hrst (s : State) : exec .hrst s = .next (hardReset s) := rfl

theorem decode_hrst (esc gfx : Bool) : decode esc gfx 0xFF = .hrst := decode_of_byteRange (m := .HRST) rfl rfl

/-- A state that stores the black buffer shows a black pixel in every place (R173). -/
theorem bufferBlack_of_pix_eq {t : State} (h : t.pix = fillGrid 64 64 black) : BufferBlack t := by
  intro x _ y _
  rw [State.pixAt, h, gridGet_fillGrid_default]
  rfl

/-- Settles O20: the opcode map lists 0xFF for `HRST` in every context, and `hardReset_eq` is its whole effect. -/
theorem hardResetRestoresBothScreens : Obligations.HardResetRestoresBothScreens := by
  refine ⟨decode_hrst, fun s => ⟨hardReset s, exec_hrst s, ?_⟩⟩
  rw [hardReset_eq]
  exact ⟨gridBlank_of_cell_eq rfl, bufferBlack_of_pix_eq rfl, rfl⟩

/-- Settles O26: under a pending escape the decoder does not come to the test of the mode. -/
theorem escapeArgumentIgnoresMode : Obligations.EscapeArgumentIgnoresMode := by
  intro b
  rw [decode, decode, if_pos rfl, if_pos rfl]

/-! The flags. -/

/-- Settles O32: instruction by instruction; the five that call a screen's micro-operation change that screen only. -/
theorem flagsWrittenOnlyAsListed : Obligations.FlagsWrittenOnlyAsListed := by
  intro i s t h
  cases i <;> obtain rfl := Host.Outcome.next.inj h
  case tCr => rw [newLine_frame]; exact ⟨rfl, rfl⟩
  case tDel => rw [backspace_frame]; exact ⟨rfl, rfl⟩
  case tChar ch => rw [writeChar_onlyGridAndCursor]; exact ⟨rfl, rfl⟩
  case gBlack => rw [writeAndAdvance_frame]; exact ⟨rfl, rfl⟩
  case gPixel p => rw [writeAndAdvance_frame]; exact ⟨rfl, rfl⟩
  all_goals exact ⟨rfl, rfl⟩

/-! The blink state and the ports. -/

/-- `t` differs from `s` in the flags and the two screens at most. -/
abbrev OnlyFlagsAndScreens (s t : State) : Prop :=
  t = { s with
    gfx := t.gfx, esc := t.esc, cell := t.cell, curC := t.curC, curR := t.curR, curColor := t.curColor,
    pix := t.pix, ptrX := t.ptrX, ptrY := t.ptrY }

/-- The flags and the two screens are all that an instruction can write. -/
theorem exec_onlyFlagsAndScreens {i : Instr} {s t : State} (h : exec i s = .next t) : OnlyFlagsAndScreens s t := by
  cases i <;> obtain rfl := Host.Outcome.next.inj h
  case tCr => rw [newLine_frame]
  case tDel => rw [backspace_frame]
  case tChar ch => rw [writeChar_onlyGridAndCursor]
  case gBlack => rw [writeAndAdvance_frame]
  case gPixel p => rw [writeAndAdvance_frame]
  all_goals rfl

/-- Settles O33: the blink state and the ports are the other fields of the state. -/
theorem noByteWritesBlinkOrPorts : Obligations.NoByteWritesBlinkOrPorts := by
  intro i s t h
  rw [exec_onlyFlagsAndScreens h]
  exact ⟨rfl, rfl, rfl, rfl, rfl⟩

/-- `t` differs from `s` in the blink state and the ports at most. -/
abbrev OnlyBlinkAndPorts (s t : State) : Prop :=
  t = { s with
    blinkVisible := t.blinkVisible, blinkDeadline := t.blinkDeadline, inputs := t.inputs, frame := t.frame,
    freeCount := t.freeCount }

/-- Around its instruction a tick changes the blink state and the ports only (R190). -/
theorem finishTick_onlyBlinkAndPorts (now : Nat) (s : State) :
    OnlyBlinkAndPorts s (finishTick now (consumeInput s)) := by
  rw [finishTick_frame, consumeInput_frame]

/-- Power-on gives the reset state, up to the ports (R340). -/
theorem powerOn_onlyBlinkAndPorts (s : State) : OnlyBlinkAndPorts State.reset (powerOn s) := rfl

/-! The screen of the other mode. -/

/-- Only hard reset and the instructions of graphics mode write the pixels and the pointer (R315). -/
theorem exec_keeps_pixels {i : Instr} {esc : Bool} {s t : State} (h : exec i s = .next t)
    (context : i.inContext esc false = true) (ne : i ≠ .hrst) :
    t.pix = s.pix ∧ t.ptrX = s.ptrX ∧ t.ptrY = s.ptrY := by
  cases i <;> obtain rfl := Host.Outcome.next.inj h
  case hrst => exact absurd rfl ne
  case tCr => rw [newLine_frame]; exact ⟨rfl, rfl, rfl⟩
  case tDel => rw [backspace_frame]; exact ⟨rfl, rfl, rfl⟩
  case tChar ch => rw [writeChar_onlyGridAndCursor]; exact ⟨rfl, rfl, rfl⟩
  case gExit | gBlack | gSetY | gSetX | gPixel => simp [Instr.inContext, Instr.mnemonic, Mnemonic.inContext] at context
  all_goals exact ⟨rfl, rfl, rfl⟩

/-- In graphics mode without a pending escape only hard reset writes the text screen (R315). -/
theorem exec_keeps_text {i : Instr} {s t : State} (h : exec i s = .next t)
    (context : i.inContext false true = true) (ne : i ≠ .hrst) :
    t.cell = s.cell ∧ t.curC = s.curC ∧ t.curR = s.curR ∧ t.curColor = s.curColor := by
  cases i <;> obtain rfl := Host.Outcome.next.inj h
  case hrst => exact absurd rfl ne
  case eTxtGray | eTxtGreen | eColor | eGfx | eNop | tCr | tDel | tIgn | tChar => exact absurd context Bool.false_ne_true
  case gBlack => rw [writeAndAdvance_frame]; exact ⟨rfl, rfl, rfl, rfl⟩
  case gPixel p => rw [writeAndAdvance_frame]; exact ⟨rfl, rfl, rfl, rfl⟩
  all_goals exact ⟨rfl, rfl, rfl, rfl⟩

/-- Settles O34: the context of the flags admits no instruction that writes the other screen but `HRST`, and what is left
of the tick writes neither. -/
theorem eachScreenKeptWhileTheOtherIsActive : Obligations.EachScreenKeptWhileTheOtherIsActive := by
  intro s t noReset noHrst h
  obtain ⟨b, now, u, hi, hu, rfl⟩ | ⟨now, hi, rfl⟩ | ⟨hi, rfl⟩ := step_cases h
  · have ne : decode s.esc s.gfx b ≠ .hrst := fun e => noHrst now (by rw [hi, eq_encode_of_decode e]; rfl)
    have context := (decode_spec s.esc s.gfx b).2.1
    rw [finishTick_onlyBlinkAndPorts now u]
    constructor
    · intro text
      rw [text] at context ne hu
      have kept := exec_keeps_pixels hu context ne
      exact kept
    · intro graphics noEsc
      rw [graphics, noEsc] at context ne hu
      have kept := exec_keeps_text hu context ne
      exact kept
  · rw [finishTick_onlyBlinkAndPorts now s]
    exact ⟨fun _ => ⟨rfl, rfl, rfl⟩, fun _ _ => ⟨rfl, rfl, rfl, rfl⟩⟩
  · exact absurd hi noReset

end Sys2Proof.Machine
end

section
/-! The tick: what a step does under each input, what the blink update and the frame depend on, and runs that deliver
idle ticks or the bytes of a program (R190 to R192, R270, R311, R340). -/

namespace Sys2Proof.Machine

/-! A step under each input. -/

/-- The inputs still to come after one is taken; past the end of the list there are none (log 2). -/
theorem consumeInput_inputs (s : State) : (consumeInput s).inputs = s.inputs.tail := by
  unfold consumeInput
  split <;> rename_i h <;> rw [h]
  · exact h
  · rfl

@[simp] theorem finishTick_inputs (now : Nat) (s : State) : (finishTick now s).inputs = s.inputs := by
  rw [finishTick_frame]

/-- An instruction leaves the inputs to come as they were, so that the tick takes the same one after it. -/
theorem consumeInput_of_exec {i : Instr} {s t : State} {input : TickInput} {rest : List TickInput}
    (h : exec i s = .next t) (inputs : s.inputs = input :: rest) : consumeInput t = t.setInputs rest := by
  obtain ⟨_, _, same, _, _⟩ := noByteWritesBlinkOrPorts i s t h
  exact consumeInput_of_inputs (same.trans inputs)

/-- A tick with a byte runs the instruction that the decoder reads, and finishes (R191). -/
theorem step_of_byte {s t : State} {b : Byte} {now : Nat} {rest : List TickInput}
    (inputs : s.inputs = .tick (some b) now :: rest) (h : exec (decode s.esc s.gfx b) s = .next t) :
    step s = .next (finishTick now (t.setInputs rest)) := by
  rw [step_of_inputs inputs, takeInput, tick_of_dispatchInput (byte := some b) h, consumeInput_of_exec h inputs]

/-- A tick without a byte finishes only (R192). -/
theorem step_of_noByte {s : State} {now : Nat} (h : nextInput s = .tick none now) :
    step s = .next (finishTick now (consumeInput s)) := by
  rw [step, h]
  rfl

/-- Settles O36: the tick of a listed byte, with `finishTick` written out. -/
theorem stepRunsDecodedInstruction : Obligations.StepRunsDecodedInstruction := by
  intro s t b now rest i inputs hi _ h
  rw [← hi] at h
  exact step_of_byte inputs h

/-- Settles O38: `withFetchWord` lists the byte of the word and sets the flags of its key. -/
theorem fetchWordRunsDecodedInstruction : Obligations.FetchWordRunsDecodedInstruction := by
  intro s t nbits w i hi h
  have decoded : decode (tableEsc w) (tableGfx w) (tableByte w) = i := by
    unfold decodeTableWord at hi
    split_ifs at hi
    exact Option.some.inj hi
  rw [← decoded] at h
  exact step_of_byte (s := s.withFetchWord nbits w) (b := tableByte w) rfl h

/-- Settles O39: the tick of a listed input without a byte, with `finishTick` written out. -/
theorem idleTickOnlyBlinksAndRenders : Obligations.IdleTickOnlyBlinksAndRenders := by
  intro s now rest inputs
  rw [step_of_noByte (now := now) (by rw [nextInput, inputs]), consumeInput_of_inputs inputs]
  rfl

/-- Settles O40: with nothing listed the input is a tick without a byte at the free time of the index, which moves on. -/
theorem stepWithoutListedInputIsIdleAtFreeTime : Obligations.StepWithoutListedInputIsIdleAtFreeTime := by
  intro s inputs
  have taken : consumeInput s = s.setFreeCount (s.freeCount + 1) := by rw [consumeInput, inputs]
  rw [step_of_noByte (now := Config.freeNow s.freeCount) (by rw [nextInput, inputs]), taken]
  rfl

/-- Settles O45: the reset input, with `powerOn` written out. -/
theorem powerOnResetGivesResetState : Obligations.PowerOnResetGivesResetState := by
  intro s rest inputs
  rw [step_of_inputs inputs, takeInput, consumeInput_of_inputs inputs]
  rfl

/-- Settles O44: the fields of the power-on state as they are defined; its two arrays are filled with one element. -/
theorem resetStateValues : Obligations.ResetStateValues :=
  ⟨rfl, rfl, gridBlank_of_cell_eq rfl, rfl, rfl, rfl, rfl, bufferBlack_of_pix_eq rfl, rfl, rfl, rfl, rfl, rfl, rfl, rfl⟩

/-! The blink state. -/

/-- The byte of a tick, if there is one, leaves the blink state (R270). -/
theorem dispatchInput_keeps_blink {byte : Option Byte} {s u : State} (h : dispatchInput byte s = .next u) :
    u.blinkVisible = s.blinkVisible ∧ u.blinkDeadline = s.blinkDeadline := by
  cases byte with
  | none =>
    obtain rfl := Host.Outcome.next.inj h
    exact ⟨rfl, rfl⟩
  | some b =>
    obtain ⟨visible, deadline, _⟩ := noByteWritesBlinkOrPorts _ s u h
    exact ⟨visible, deadline⟩

/-- At and after the deadline the end of a tick toggles the blink once (R270). -/
theorem finishTick_blink_reached {now : Nat} {s : State} (h : s.blinkDeadline ≤ now) :
    (finishTick now s).blinkVisible = (!s.blinkVisible) ∧ (finishTick now s).blinkDeadline = now + 300 := by
  rw [finishTick, blinkUpdate_reached h]
  exact ⟨rfl, rfl⟩

/-- Before the deadline the end of a tick keeps the blink state (R270). -/
theorem finishTick_blink_before {now : Nat} {s : State} (h : now < s.blinkDeadline) :
    (finishTick now s).blinkVisible = s.blinkVisible ∧ (finishTick now s).blinkDeadline = s.blinkDeadline := by
  rw [finishTick, blinkUpdate_before h]
  exact ⟨rfl, rfl⟩

/-- Settles O41: neither the byte nor the taking of the input writes the blink state, so that the update at the end of the
tick is the only one. -/
theorem everyTickUpdatesBlinkByTimeAlone : Obligations.EveryTickUpdatesBlinkByTimeAlone := by
  intro s t byte now rest inputs h
  rw [step_of_inputs inputs] at h
  obtain ⟨u, hu, rfl⟩ := tick_next h
  obtain ⟨visible, deadline⟩ := dispatchInput_keeps_blink hu
  have taken := consumeInput_frame u
  generalize consumeInput u = v at taken ⊢
  have visible' : v.blinkVisible = s.blinkVisible := by rw [taken, ← visible]
  have deadline' : v.blinkDeadline = s.blinkDeadline := by rw [taken, ← deadline]
  rw [← visible', ← deadline']
  exact ⟨finishTick_blink_reached, finishTick_blink_before⟩

/-- Settles O42: the first update sets the deadline that the second is held against. -/
theorem blinkPhaseLasts300Milliseconds : Obligations.BlinkPhaseLasts300Milliseconds := by
  intro s now later h
  rw [blinkUpdate_reached h]
  refine ⟨fun before => blinkUpdate_before before, fun reached => ?_⟩
  rw [blinkUpdate_reached (s := s.setBlink _ _) reached]
  exact Bool.not_not s.blinkVisible

/-! The frame. -/

/-- The renderer does not read the output port (R290). -/
theorem render_setFrame (f : Option Frame) (s : State) : render (s.setFrame f) = render s := rfl

/-- Settles O43: a tick ends with the frame of the state it leaves, which does not read the frame. -/
theorem frameIsRenderOfStateAtEndOfTick : Obligations.FrameIsRenderOfStateAtEndOfTick := by
  intro s t noReset h
  have finished (now : Nat) (u : State) : (finishTick now u).frame = some (render (finishTick now u)) := by
    rw [finishTick, render_setFrame]
    rfl
  obtain ⟨b, now, u, _, _, rfl⟩ | ⟨now, _, rfl⟩ | ⟨hi, _⟩ := step_cases h
  · exact finished now _
  · exact finished now _
  · exact absurd hi noReset

/-- The blink update does not read the output port (R270). -/
theorem blinkUpdate_setFrame (now : Nat) (f : Option Frame) (s : State) :
    blinkUpdate now (s.setFrame f) = (blinkUpdate now s).setFrame f := by
  rw [blinkUpdate, blinkUpdate, apply_ite (State.setFrame f)]
  rfl

/-- The end of a tick does not read the frame of the tick before. -/
theorem finishTick_setFrame (now : Nat) (f : Option Frame) (s : State) :
    finishTick now (s.setFrame f) = finishTick now s := by
  rw [finishTick, blinkUpdate_setFrame, render_setFrame]
  rfl

/-- Settles O21: hard reset sets every field but the blink state and the ports, and of the ports the tick overwrites the
frame. -/
theorem hardResetForgetsTheState : Obligations.HardResetForgetsTheState := by
  intro s s' now rest inputs inputs' visible deadline free
  have run (u : State) (inputs : u.inputs = .tick (some 0xFF) now :: rest) :
      step u = .next (finishTick now (((hardReset u).setInputs rest).setFrame none)) := by
    rw [finishTick_setFrame]
    exact step_of_byte inputs (by rw [decode_hrst]; rfl)
  have same : ((hardReset s).setInputs rest).setFrame none = ((hardReset s').setInputs rest).setFrame none := by
    simp only [hardReset_eq, State.setInputs, State.setFrame, visible, deadline, free]
  rw [run s inputs, run s' inputs', same]

/-! Runs. -/

/-- A tick without a byte and one with 0x00 do the same: the end of the tick only (R192, R194; the spec's D3). -/
theorem step_of_idle {s : State} {now : Nat} (h : nextInput s = .tick none now ∨ nextInput s = .tick (some 0x00) now) :
    step s = .next (finishTick now (consumeInput s)) := by
  obtain h | h := h
  · exact step_of_noByte h
  · rw [step, h, takeInput]
    refine tick_of_dispatchInput (byte := some 0x00) (u := s) ?_ now
    rw [dispatchInput, dispatch, nulChangesNothing.1]
    rfl

/-- Settles O35: by induction on the ticks. Each is idle, whether it is listed or past the end of the list, and an idle
tick leaves `esc` and the rest of the list. -/
theorem escapeStaysPendingOverIdleTicks : Obligations.EscapeStaysPendingOverIdleTicks := by
  intro n
  induction n with
  | zero =>
    intro s t pending _ h
    obtain rfl := Host.Outcome.next.inj h
    exact pending
  | succ n ih =>
    intro s t pending idle h
    have first : ∃ now, nextInput s = .tick none now ∨ nextInput s = .tick (some 0x00) now := by
      unfold nextInput
      split
      · exact ⟨_, .inl rfl⟩
      · rename_i i rest inputs
        exact idle i (by rw [inputs]; exact List.mem_cons_self)
    obtain ⟨now, first⟩ := first
    rw [run_succ (step_of_idle first)] at h
    refine ih _ t ?_ ?_ h
    · rw [finishTick_onlyBlinkAndPorts]
      exact pending
    · intro i hi
      have tail : s.inputs.tail.take n = (s.inputs.take (n + 1)).tail :=
        (List.tail_take_eq_take_tail s.inputs (n + 1)).symm
      rw [finishTick_inputs, consumeInput_inputs, tail] at hi
      exact idle i (List.mem_of_mem_tail hi)

/-- Settles O37: by induction on the program. The decoder reads the instruction back from its byte, and the rest of the
bytes are listed after the tick. -/
theorem encodedProgramRunsItsInstructions : Obligations.EncodedProgramRunsItsInstructions := by
  intro program
  induction program with
  | nil =>
    rintro rest s t inputs rfl
    exact ⟨rfl, inputs⟩
  | cons p program ih =>
    rintro rest s t inputs ⟨wf, context, u, hu, runs⟩
    have run : step s = .next (finishTick p.2 (consumeInput u)) := by
      rw [consumeInput_of_exec hu inputs]
      exact step_of_byte inputs (by rw [decode_encode wf context, hu])
    have listed : (finishTick p.2 (consumeInput u)).inputs =
        program.map (fun p => .tick (some (encode p.1)) p.2) ++ rest := by
      rw [finishTick_inputs, consumeInput_of_exec hu inputs]
      rfl
    obtain ⟨ran, left⟩ := ih rest _ t listed runs
    exact ⟨(run_succ run _).trans ran, left⟩

end Sys2Proof.Machine
end

section
/-! The five invariants: each holds at power-on, and every instruction keeps it, so that every step does (R35 to R38,
R112). -/

namespace Sys2Proof.Machine

/-- A step keeps what does not speak of the blink state and the ports, holds at power-on, and is kept by every
well-formed instruction: the decoder reads no other (R111, R190, R340). -/
theorem step_keeps {P : State → Prop} (ports : ∀ s t, OnlyBlinkAndPorts s t → P s → P t) (reset : P State.reset)
    (instr : ∀ i s t, i.wf = true → exec i s = .next t → P s → P t) {s t : State} (hs : P s)
    (h : step s = .next t) : P t := by
  obtain ⟨b, now, u, _, hu, rfl⟩ | ⟨now, _, rfl⟩ | ⟨_, rfl⟩ := step_cases h
  · exact ports u _ (finishTick_onlyBlinkAndPorts now u) (instr _ s u (decode_spec s.esc s.gfx b).1 hu hs)
  · exact ports s _ (finishTick_onlyBlinkAndPorts now s) hs
  · exact ports State.reset _ (powerOn_onlyBlinkAndPorts (consumeInput s)) reset

/-! The cursor. -/

theorem putAdvance_inGrid (ch : Byte) (k : RGB) {s : State} (hs : CursorInGrid s) : CursorInGrid (putAdvance ch k s) := by
  have bound := place_lt hs
  by_cases last : s.place = 79
  · rw [putAdvance_of_eq ch k hs last]
    exact setPlace_inGrid (by decide) _
  · rw [putAdvance_of_lt ch k hs (by omega)]
    exact setPlace_inGrid (by omega) _

theorem newLine_inGrid {s : State} (hs : CursorInGrid s) : CursorInGrid (newLine s) := by
  refine ⟨by rw [newLine_curC]; decide, ?_⟩
  obtain lt | eq := Nat.lt_or_eq_of_le hs.2
  · rw [newLine_of_lt lt]
    exact lt
  · rw [newLine_of_eq eq]
    exact le_rfl

theorem backspace_inGrid {s : State} (hs : CursorInGrid s) : CursorInGrid (backspace s) :=
  have written := putAdvance_inGrid Config.space black (moveLeft_inGrid hs.1 hs.2)
  moveLeft_inGrid written.1 written.2

/-- Every instruction keeps the cursor within the grid (R36). -/
theorem exec_inGrid {i : Instr} {s t : State} (h : exec i s = .next t) (hs : CursorInGrid s) : CursorInGrid t := by
  cases i <;> obtain rfl := Host.Outcome.next.inj h
  case hrst | eTxtGray | eTxtGreen => exact ⟨Nat.zero_le 9, Nat.zero_le 7⟩
  case tCr => exact newLine_inGrid hs
  case tDel => exact backspace_inGrid hs
  case tChar ch => exact putAdvance_inGrid ch s.curColor hs
  case gBlack => rw [writeAndAdvance_frame]; exact hs
  case gPixel p => rw [writeAndAdvance_frame]; exact hs
  all_goals exact hs

theorem reset_inGrid : CursorInGrid State.reset := ⟨Nat.zero_le 9, Nat.zero_le 7⟩

/-- Settles O47: by `step_keeps`; a write wraps or scrolls before it leaves the grid, and a move left wraps. -/
theorem stepKeepsCursorInGrid : Obligations.StepKeepsCursorInGrid := by
  intro s t hs h
  refine step_keeps (fun s t ports hs => ?_) reset_inGrid (fun i s t _ => exec_inGrid) hs h
  rw [ports]
  exact hs

/-! The pixels. -/

/-- Every pixel of the buffer has the property. -/
abbrev AllPixels (P : RGB → Prop) (s : State) : Prop := ∀ x < 64, ∀ y < 64, P (s.pixAt x y)

theorem allPixels_of_pix_eq {P : RGB → Prop} {s t : State} (h : t.pix = s.pix) (hs : AllPixels P s) : AllPixels P t := by
  intro x hx y hy
  rw [State.pixAt, h]
  exact hs x hx y hy

theorem allPixels_of_black {P : RGB → Prop} {t : State} (h : t.pix = fillGrid 64 64 black) (hb : P black) :
    AllPixels P t := by
  intro x hx y hy
  rw [bufferBlack_of_pix_eq h x hx y hy]
  exact hb

theorem allPixels_writeAndAdvance {P : RGB → Prop} {k : RGB} (hk : P k) {s : State} (hs : AllPixels P s) :
    AllPixels P (writeAndAdvance k s) := by
  intro x hx y hy
  rw [pixAt_writeAndAdvance]
  split
  · exact hk
  · exact hs x hx y hy

/-- The pixels that an instruction stores are black and the colours of well-formed `G.PIXEL`s (R242, R245, R260). -/
theorem exec_allPixels {P : RGB → Prop} (hb : P black) (pixel : ∀ p, (Instr.gPixel p).wf = true → P (colorDecode p))
    {i : Instr} {s t : State} (wf : i.wf = true) (h : exec i s = .next t) (hs : AllPixels P s) : AllPixels P t := by
  cases i <;> obtain rfl := Host.Outcome.next.inj h
  case hrst => exact allPixels_of_black rfl hb
  case gBlack => exact allPixels_writeAndAdvance hb hs
  case gPixel p => exact allPixels_writeAndAdvance (pixel p wf) hs
  case tCr => exact allPixels_of_pix_eq (by rw [newLine_frame]) hs
  case tDel => exact allPixels_of_pix_eq (by rw [backspace_frame]) hs
  case tChar ch => exact allPixels_of_pix_eq (by rw [writeChar_onlyGridAndCursor]) hs
  all_goals exact allPixels_of_pix_eq rfl hs

/-- What black and the colours of well-formed `G.PIXEL`s have, every step keeps for the whole buffer. -/
theorem step_allPixels {P : RGB → Prop} (hb : P black) (pixel : ∀ p, (Instr.gPixel p).wf = true → P (colorDecode p))
    {s t : State} (hs : AllPixels P s) (h : step s = .next t) : AllPixels P t := by
  refine step_keeps (fun s t ports => ?_) (allPixels_of_black rfl hb) (fun i s t => exec_allPixels hb pixel) hs h
  exact allPixels_of_pix_eq (by rw [ports])

theorem quantized_black : Quantized black := ⟨0, rfl⟩

theorem black_ne_colour27 : black ≠ colorDecode 27 := by decide

/-- No well-formed `G.PIXEL` has colour 27, since its payload is not 27 and no other payload gives that colour (R112). -/
theorem colorDecode_ne_27 {p : BitVec 6} (wf : (Instr.gPixel p).wf = true) : colorDecode p ≠ colorDecode 27 := by
  intro h
  rw [colorDecode_injective h] at wf
  exact Bool.false_ne_true wf

/-- Settles O48: by `step_allPixels`; every colour that is written is decoded from a code, black from code 0. -/
theorem stepKeepsPixelsQuantized : Obligations.StepKeepsPixelsQuantized :=
  fun _ _ => step_allPixels quantized_black fun p _ => ⟨p, rfl⟩

/-- Settles O49: by `step_allPixels`; payload 27 has no encoding, and the quantizer is injective. -/
theorem stepKeepsColour27OutOfTheBuffer : Obligations.StepKeepsColour27OutOfTheBuffer :=
  fun _ _ => step_allPixels (P := (· ≠ colorDecode 27)) black_ne_colour27 fun _ => colorDecode_ne_27

/-! The cells. -/

/-- Every cell of the grid has the property. -/
abbrev AllCells (P : TextCell → Prop) (s : State) : Prop := ∀ c < 10, ∀ r < 8, P (s.cellAt c r)

theorem allCells_of_cell_eq {P : TextCell → Prop} {s t : State} (h : t.cell = s.cell) (hs : AllCells P s) :
    AllCells P t := by
  intro c hc r hr
  rw [State.cellAt, h]
  exact hs c hc r hr

section
variable {P : TextCell → Prop} (blank : P blankCell)
include blank

theorem allCells_of_blank {t : State} (h : t.cell = fillGrid 10 8 blankCell) : AllCells P t := by
  intro c hc r hr
  rw [gridBlank_of_cell_eq h c hc r hr]
  exact blank

theorem allCells_scrollIfNeeded {s : State} (hs : AllCells P s) : AllCells P (scrollIfNeeded s) := by
  obtain gt | le := Nat.lt_or_ge 7 s.curR
  · rw [scrollIfNeeded_of_gt gt]
    intro c hc r hr
    rw [State.cellAt, setCurR_cell, setCell_cell, gridGet_scrolledGrid s.cell c r hr]
    split
    · exact hs c hc (r + 1) (by omega)
    · exact blank
  · rw [scrollIfNeeded_of_le le]
    exact hs

theorem allCells_newLine {s : State} (hs : AllCells P s) : AllCells P (newLine s) := allCells_scrollIfNeeded blank hs

theorem allCells_putAdvance {ch : Byte} {k : RGB} (written : P ⟨ch, k⟩) {s : State} (hs : AllCells P s) :
    AllCells P (putAdvance ch k s) := by
  refine allCells_scrollIfNeeded blank ?_
  rw [advanceCursor_frame]
  intro c hc r hr
  have read := cellAt_cellWrite s.curC s.curR ch k s c r
  split at read
  · exact read ▸ written
  · exact read ▸ hs c hc r hr

theorem allCells_backspace {s : State} (hs : AllCells P s) : AllCells P (backspace s) := by
  have moved {u : State} (hu : AllCells P u) : AllCells P (moveLeft u) :=
    allCells_of_cell_eq (by rw [moveLeft_frame]) hu
  exact moved (allCells_putAdvance blank blank (moved hs))

/-- The cells that an instruction stores are blank, or have the code of a `T.CHAR` and the current colour (R140, R142,
R147, R149). -/
theorem exec_allCells {i : Instr} {s t : State} (written : ∀ ch, i = .tChar ch → P ⟨ch, s.curColor⟩)
    (h : exec i s = .next t) (hs : AllCells P s) : AllCells P t := by
  cases i <;> obtain rfl := Host.Outcome.next.inj h
  case hrst | eTxtGray | eTxtGreen => exact allCells_of_blank blank rfl
  case tCr => exact allCells_newLine blank hs
  case tDel => exact allCells_backspace blank hs
  case tChar ch => exact allCells_putAdvance blank (written ch rfl) hs
  case gBlack => exact allCells_of_cell_eq (by rw [writeAndAdvance_frame]) hs
  case gPixel p => exact allCells_of_cell_eq (by rw [writeAndAdvance_frame]) hs
  all_goals exact allCells_of_cell_eq rfl hs

end

theorem blankCell_writable : WritableCode blankCell.ch := by decide

theorem reset_cellsWritable : CellsWritable State.reset :=
  allCells_of_blank (P := fun a => WritableCode a.ch) blankCell_writable rfl

/-- Settles O50: by `step_keeps`; a cell is written with SPACE or with the code of a well-formed `T.CHAR`. -/
theorem stepKeepsCellsWritable : Obligations.StepKeepsCellsWritable := by
  intro s t hs h
  refine step_keeps (P := AllCells fun a => WritableCode a.ch) (fun s t ports => ?_) reset_cellsWritable
    (fun i s t wf => exec_allCells blankCell_writable ?_) hs h
  · exact allCells_of_cell_eq (by rw [ports])
  · rintro ch rfl
    exact (wf_tChar_iff ch).1 wf

theorem textColour_black : TextColour black := .inr (.inr quantized_black)

/-- The colours that an instruction makes current are the foregrounds and quantized colours (R149, R223). -/
theorem exec_textColour {i : Instr} {s t : State} (h : exec i s = .next t) (hs : TextColour s.curColor) :
    TextColour t.curColor := by
  cases i <;> obtain rfl := Host.Outcome.next.inj h
  case hrst | eTxtGray => exact .inl rfl
  case eTxtGreen => exact .inr (.inl rfl)
  case eColor alt p => exact .inr (.inr ⟨p, rfl⟩)
  case tCr => rw [newLine_frame]; exact hs
  case tDel => rw [backspace_frame]; exact hs
  case tChar ch => rw [writeChar_onlyGridAndCursor]; exact hs
  case gBlack => rw [writeAndAdvance_frame]; exact hs
  case gPixel p => rw [writeAndAdvance_frame]; exact hs
  all_goals exact hs

theorem reset_textColoursKnown : TextColoursKnown State.reset :=
  ⟨.inl rfl, allCells_of_blank (P := fun a => TextColour a.color) textColour_black rfl⟩

/-- Settles O51: by `step_keeps`; a cell is written in black or in the current colour, which is known itself. -/
theorem stepKeepsTextColoursKnown : Obligations.StepKeepsTextColoursKnown := by
  intro s t hs h
  refine step_keeps (P := TextColoursKnown) (fun s t ports hs => ?_) reset_textColoursKnown (fun i s t _ h hs => ?_) hs h
  · rw [ports]
    exact hs
  · exact ⟨exec_textColour h hs.1,
      exec_allCells (P := fun a => TextColour a.color) textColour_black (fun _ _ => hs.1) h hs.2⟩

/-- Settles O52: the power-on state has a blank grid, a black buffer, the cursor at the origin and the gray
foreground. -/
theorem resetStateMeetsInvariants : Obligations.ResetStateMeetsInvariants :=
  ⟨reset_inGrid, allPixels_of_black rfl quantized_black,
    allPixels_of_black (P := (· ≠ colorDecode 27)) rfl black_ne_colour27, reset_cellsWritable, reset_textColoursKnown⟩

end Sys2Proof.Machine
end

section
/-! The renderer in text mode: what the frame holds in the box of a cell and outside all boxes, and what it depends on
(R42, R290 to R293). -/

namespace Sys2Proof.Machine

/-! Painting in turn. -/

/-- Paintings in turn that each leave a pixel as it was leave it so together. -/
theorem frameAt_foldl_keeps {paint : Frame → Nat → Frame} {x y n : Nat}
    (keeps : ∀ i < n, ∀ f, frameAt (paint f i) x y = frameAt f x y) (f : Frame) :
    frameAt ((List.range n).foldl paint f) x y = frameAt f x y := by
  induction n with
  | zero => rfl
  | succ n ih =>
    rw [List.range_succ, List.foldl_concat, keeps n (Nat.lt_succ_self n), ih fun i hi => keeps i (by omega)]

/-- Of paintings in turn that all but one leave a pixel as it was, that one says what the pixel holds. -/
theorem frameAt_foldl_only {paint : Frame → Nat → Frame} {x y n j : Nat} {shown : Option RGB → Option RGB} (hj : j < n)
    (paints : ∀ f, frameAt (paint f j) x y = shown (frameAt f x y))
    (keeps : ∀ i < n, i ≠ j → ∀ f, frameAt (paint f i) x y = frameAt f x y) (f : Frame) :
    frameAt ((List.range n).foldl paint f) x y = shown (frameAt f x y) := by
  induction n with
  | zero => exact absurd hj (Nat.not_lt_zero j)
  | succ n ih =>
    rw [List.range_succ, List.foldl_concat]
    by_cases last : j = n
    · subst last
      rw [paints, frameAt_foldl_keeps fun i hi => keeps i (by omega) (by omega)]
    · rw [keeps n (Nat.lt_succ_self n) (Ne.symm last), ih (by omega) fun i hi => keeps i (by omega)]

/-! The box of a cell. -/

/-- A pixel of a cell's box lies on the canvas: the sizes of R11. -/
theorem box_lt {g : GlyphSource} {c r dx dy : Nat} (hc : c < 10) (hr : r < 8) (hdx : dx < g.cellW.val)
    (hdy : dy < g.cellH.val) : c * g.cellW.val + dx < 64 ∧ r * g.cellH.val + dy < 64 := by
  have hw : g.cellW.val ≤ 6 := Nat.le_of_lt_succ g.cellW.isLt
  have hh : g.cellH.val ≤ 8 := Nat.le_of_lt_succ g.cellH.isLt
  constructor <;> nlinarith

/-- What is shown where a pixel of the glyph of `ch` is painted over `under` (R292; the spec's D13). -/
def paintedOver (g : GlyphSource) (ch : Byte) (k : RGB) (dx dy : Nat) (under : Option RGB) : Option RGB :=
  if g.lit ch dx dy = true then some k else under

section
variable {g : GlyphSource} {c r dx dy : Nat} (hc : c < 10) (hr : r < 8) (hdx : dx < g.cellW.val)
  (hdy : dy < g.cellH.val)
include hc hr hdx hdy

/-- A glyph paints the lit pixels of its own box (R292). -/
theorem frameAt_paintGlyph_box (ch : Byte) (k : RGB) (f : Frame) :
    frameAt (paintGlyph g ch k c r f) (c * g.cellW.val + dx) (r * g.cellH.val + dy) =
      paintedOver g ch k dx dy (frameAt f (c * g.cellW.val + dx) (r * g.cellH.val + dy)) := by
  obtain ⟨hx, hy⟩ := box_lt hc hr hdx hdy
  obtain ⟨lit, unlit⟩ := frameAt_paintGlyph g ch k c r f _ _ hx hy
  rw [litIn_box hdx hdy] at lit unlit
  unfold paintedOver
  split
  · exact lit ‹_›
  · exact unlit ‹_›

/-- A glyph paints nothing in the box of another cell (R292). -/
theorem frameAt_paintGlyph_otherBox (ch : Byte) (k : RGB) {c' r' : Nat} (other : ¬ (c' = c ∧ r' = r)) (f : Frame) :
    frameAt (paintGlyph g ch k c' r' f) (c * g.cellW.val + dx) (r * g.cellH.val + dy) =
      frameAt f (c * g.cellW.val + dx) (r * g.cellH.val + dy) := by
  obtain ⟨hx, hy⟩ := box_lt hc hr hdx hdy
  exact (frameAt_paintGlyph g ch k c' r' f _ _ hx hy).2 fun lit => other (litIn_box_unique hdx hdy lit)

/-- The text screen shows in each box the glyph of its cell (R292). -/
theorem frameAt_renderText_box (s : State) (f : Frame) :
    frameAt (renderText g s f) (c * g.cellW.val + dx) (r * g.cellH.val + dy) =
      paintedOver g (s.cellAt c r).ch (s.cellAt c r).color dx dy
        (frameAt f (c * g.cellW.val + dx) (r * g.cellH.val + dy)) := by
  refine frameAt_foldl_only hr (fun f => frameAt_foldl_only hc (fun f => ?_) (fun c' _ ne f => ?_) f)
    (fun r' _ ne f => frameAt_foldl_keeps (fun c' _ f => ?_) f) f
  · exact frameAt_paintGlyph_box hc hr hdx hdy _ _ f
  · exact frameAt_paintGlyph_otherBox hc hr hdx hdy _ _ (fun same => ne same.1) f
  · exact frameAt_paintGlyph_otherBox hc hr hdx hdy _ _ (fun same => ne same.2) f

/-- The cursor shows its underscore in the box of its cell only (R293). -/
theorem frameAt_renderCursor_box (s : State) (f : Frame) :
    frameAt (renderCursor g s f) (c * g.cellW.val + dx) (r * g.cellH.val + dy) =
      if c = s.curC ∧ r = s.curR then
        paintedOver g Config.underscore s.curColor dx dy (frameAt f (c * g.cellW.val + dx) (r * g.cellH.val + dy))
      else frameAt f (c * g.cellW.val + dx) (r * g.cellH.val + dy) := by
  split
  case isTrue here =>
    obtain ⟨rfl, rfl⟩ := here
    exact frameAt_paintGlyph_box hc hr hdx hdy _ _ f
  case isFalse elsewhere =>
    exact frameAt_paintGlyph_otherBox hc hr hdx hdy _ _ (fun same => elsewhere ⟨same.1.symm, same.2.symm⟩) f

end

@[simp] theorem frameAt_blankFrame (x y : Nat) : frameAt blankFrame x y = none := gridGet_fillGrid_default none x y

/-- Settles O54: the boxes do not overlap, so that only the cell's own glyph and, at the cursor, the underscore over it
paint in a box. -/
theorem textFrameShowsLitGlyphPixels : Obligations.TextFrameShowsLitGlyphPixels := by
  intro g s text c hc r hr dx hdx dy hdy
  have cell := frameAt_renderText_box hc hr hdx hdy s blankFrame
  rw [frameAt_blankFrame] at cell
  rw [renderWith_text g text]
  by_cases visible : s.blinkVisible = true
  · rw [if_pos visible, frameAt_renderCursor_box hc hr hdx hdy, cell]
    by_cases here : c = s.curC ∧ r = s.curR
    · obtain ⟨hcol, hrow⟩ := here
      simp [paintedOver, Config.underscore, visible, hcol, hrow]
    · rw [if_neg here, if_neg fun shown => here ⟨shown.2.1, shown.2.2.1⟩, paintedOver]
  · rw [if_neg visible, cell, if_neg fun shown => visible shown.1, paintedOver]

/-! The margin. -/

section
variable {g : GlyphSource} {x y : Nat} (hx : x < 64) (hy : y < 64)
  (margin : 10 * g.cellW.val ≤ x ∨ 8 * g.cellH.val ≤ y)
include hx hy margin

/-- No cell's glyph paints in the margin (R292). -/
theorem frameAt_paintGlyph_margin {c r : Nat} (hc : c < 10) (hr : r < 8) (ch : Byte) (k : RGB) (f : Frame) :
    frameAt (paintGlyph g ch k c r f) x y = frameAt f x y := by
  refine (frameAt_paintGlyph g ch k c r f x y hx hy).2 ?_
  rintro ⟨dy, hdy, dx, hdx, _, rfl, rfl⟩
  obtain right | below := margin
  · nlinarith
  · nlinarith

theorem frameAt_renderText_margin (s : State) (f : Frame) : frameAt (renderText g s f) x y = frameAt f x y :=
  frameAt_foldl_keeps (fun _ hr f => frameAt_foldl_keeps
    (fun _ hc f => frameAt_paintGlyph_margin hx hy margin hc hr _ _ f) f) f

theorem frameAt_renderCursor_margin {s : State} (hs : CursorInGrid s) (f : Frame) :
    frameAt (renderCursor g s f) x y = frameAt f x y :=
  frameAt_paintGlyph_margin hx hy margin (Nat.lt_succ_of_le hs.1) (Nat.lt_succ_of_le hs.2) _ _ f

end

/-- Settles O55: the boxes of the cells, the cursor's among them, end before the margin. -/
theorem textFrameLeavesMarginToBackground : Obligations.TextFrameLeavesMarginToBackground := by
  intro g s text hs x hx y hy margin
  have unpainted : frameAt (renderWith g s) x y = none := by
    rw [renderWith_text g text]
    split
    · rw [frameAt_renderCursor_margin hx hy margin hs, frameAt_renderText_margin hx hy margin, frameAt_blankFrame]
    · rw [frameAt_renderText_margin hx hy margin, frameAt_blankFrame]
  exact ⟨unpainted, by rw [displayed, unpainted]; rfl⟩

/-! What the frame depends on. -/

theorem renderGfx_congr {s t : State} (h : s.pix = t.pix) : renderGfx s = renderGfx t := by
  simp only [renderGfx, State.pixAt, h]

theorem renderText_congr (g : GlyphSource) {s t : State} (h : s.cell = t.cell) (f : Frame) :
    renderText g s f = renderText g t f := by
  simp only [renderText, State.cellAt, h]

theorem renderCursor_congr (g : GlyphSource) {s t : State} (hc : s.curC = t.curC) (hr : s.curR = t.curR)
    (hk : s.curColor = t.curColor) (f : Frame) : renderCursor g s f = renderCursor g t f := by
  rw [renderCursor, renderCursor, hc, hr, hk]

/-- Settles O56: the three painters of the frame, each with the fields that it reads. -/
theorem frameDependsOnlyOnTheActiveScreen : Obligations.FrameDependsOnlyOnTheActiveScreen := by
  intro g s t mode
  refine ⟨fun graphics pix => ?_, fun text cell col row color visible => ?_⟩
  · rw [renderWith_graphics g graphics, renderWith_graphics g (mode ▸ graphics), renderGfx_congr pix]
  · rw [renderWith_text g text, renderWith_text g (mode ▸ text), visible, renderText_congr g cell,
      renderCursor_congr g col row color]

end Sys2Proof.Machine
end
